-- ==== Sys2Proof/Word.lean ====
section
/-! DEFINITION. The word types of CRC16X-YMTX: the host bus moves 32-bit words (20_memory.md R60), buffers and the wire carry bytes, the CRC accumulator has 16 bits (00_scope.md R6). All values are unsigned (R7). -/

namespace Sys2Proof

/-- A word of the host bus and the width of the 32-bit registers (R6, R60). -/
abbrev Word := BitVec 32

/-- One byte of a buffer, of a command's ARG field or of the wire. -/
abbrev Byte := BitVec 8

/-- The CRC accumulator and every value `crc16` gives (R6, R120). -/
abbrev Half := BitVec 16

end Sys2Proof
end

