-- ==== Sys2Proof/Config.lean ====
section
/-! DEFINITION. What is fixed for one instance of the block: the source's constants (00_scope.md R4), the parameters a model takes as arguments (R5, R6), the host address map's bases (20_memory.md R61), and the one free value the spec leaves (10_state.md R43). -/

namespace Sys2Proof.Config

/-- `POLY` (R4): the CRC polynomial, not reflected. -/
def poly : Half := 0x1021#16
/-- `CRC_INIT_VALUE` (R4). -/
def crcInitValue : Half := 0x0000#16
/-- `BLOCK_SIZE` (R4): payload bytes per frame. -/
def blockSize : Nat := 128
/-- `FRAME_SIZE` (R4): bytes per frame. -/
def frameSize : Nat := 133
/-- `NAME_MAX` (R4): the filename truncation length and the size of NAME. -/
def nameMax : Nat := 64
/-- `SOH` (R4, R101): byte 0 of every frame. -/
def sohByte : Byte := 0x01#8
/-- `EOT` (R4, R101). -/
def eotByte : Byte := 0x04#8
/-- `ACK` (R4, R101). -/
def ackByte : Byte := 0x06#8
/-- `CAN` (R4, R101). -/
def canByte : Byte := 0x18#8
/-- `CRC_REQ`, 'C' (R4, R101). -/
def crcReq : Byte := 0x43#8
/-- `DATA_PAD` (R4). -/
def dataPad : Byte := 0x1A#8
/-- `HDR_PAD` (R4). -/
def hdrPad : Byte := 0x00#8
/-- `TICK_MS` (R5): the period of one tick in milliseconds. -/
def tickMs : Nat := 1
/-- `POLL_MS` (R5): informative, the hardware waits continuously (R212); no rule of the model reads it (log 18). -/
def pollMs : Nat := 100
/-- `PAYLOAD_MAX` is at most this (R6). -/
def payloadLimit : Word := 0xFFFF0000#32

/-- Host address of NAME[0] (R61). -/
def nameBase : Nat := 0x100
/-- Host address of FRAME[0] (R61). -/
def frameBase : Nat := 0x200
/-- Host address of PAYLOAD[0] (R61). -/
def payloadBase : Nat := 0x10000

/-- The arguments a model takes (R5, R6). They are held in State, so that a claim about every state is a claim about every choice of them (log 5). -/
structure Params where
  /-- `PAYLOAD_MAX`, the size in bytes of the payload memory; CAP reads it (R6, R39). -/
  payloadMax : Word
  /-- `T_INIT_MS` in ticks (R5). -/
  tInitMs : Nat
  /-- `T_ACK_MS` in ticks (R5). -/
  tAckMs : Nat
  deriving DecidableEq, Repr

/-- The spec's default timeouts (R5), and a payload memory of 0x10000 bytes, the size 95_test_vectors.md uses where one matters. DESIGN CHOICE (log 5): PAYLOAD_MAX is OPEN (R6). -/
def Params.default : Params := { payloadMax := 0x10000#32, tInitMs := 10000, tAckMs := 3000 }

/-- The free value: the byte that the n-th host read of an unwritten buffer byte returns (R43: "an unspecified byte (a fresh draw, not necessarily the same on two reads)"; log 8). -/
opaque freeByte : Nat → Byte

end Sys2Proof.Config
end

