-- ==== Sys2Proof/Syntax.lean ====
section
/-! DEFINITION. The commands, one constructor per row of spec/opcode_table.json, and the raw fields of a command word (30_encoding.md R90, R91). -/

namespace Sys2Proof

/-- The nine commands (R91). CRC_BYTE alone has an operand field (R94); every other operand is a register or a buffer the opcode names. -/
inductive Instr where
  /-- NOP, OP 0x00 (R170). -/
  | nop
  /-- CRC_INIT, OP 0x01 (R123). -/
  | crcInit
  /-- CRC_BYTE b, OP 0x02, b = ARG (R124). -/
  | crcByte (b : Byte)
  /-- FRAME_HDR, OP 0x08 (R146). -/
  | frameHdr
  /-- FRAME_DATA, OP 0x09 (R147). -/
  | frameData
  /-- FRAME_END, OP 0x0A (R148). -/
  | frameEnd
  /-- FRAME_CHECK, OP 0x0B (R149). -/
  | frameCheck
  /-- START, OP 0x10 (R171). -/
  | start
  /-- CLEAR, OP 0x11 (R172). -/
  | clear
  deriving DecidableEq, Repr

/-- A command word cut into its three fields (R90), before anything is checked. -/
structure CommandFields where
  /-- OP, bits [7:0]. -/
  op : Byte
  /-- ARG, bits [15:8]. -/
  arg : Byte
  /-- RSV, bits [31:16]. -/
  rsv : BitVec 16
  deriving DecidableEq, Repr

end Sys2Proof
end

