-- ==== Sys2Proof/WellFormed.lean ====
section
/-! DEFINITION. What a well-formed command word is (30_encoding.md R90, R92, R93) and what well-formed parameters are (00_scope.md R5, R6). A term of `Instr` needs no check of its own: its one operand is a `Byte`, and R94 admits every byte. -/

namespace Sys2Proof

/-- Check 1 (R90): RSV "reserved, must be 0". -/
def CommandFields.rsvOk (f : CommandFields) : Bool := f.rsv == 0#16

/-- Check 2 (R91): OP is one of the nine opcodes. -/
def CommandFields.opOk (f : CommandFields) : Bool :=
  [0x00#8, 0x01#8, 0x02#8, 0x08#8, 0x09#8, 0x0A#8, 0x0B#8, 0x10#8, 0x11#8].contains f.op

/-- Check 3 (R90): ARG is "used only by CRC_BYTE, must be 0 for every other opcode". -/
def CommandFields.argOk (f : CommandFields) : Bool := f.op == 0x02#8 || f.arg == 0#8

/-- A command word that is one of the nine commands (R93). -/
def CommandFields.wf (f : CommandFields) : Bool := f.rsvOk && f.opOk && f.argOk

/-- Check 4 (R6): 0 <= PAYLOAD_MAX <= 0xFFFF0000. -/
def Config.Params.payloadOk (p : Config.Params) : Bool := decide (p.payloadMax ≤ Config.payloadLimit)

/-- Check 5 (R5, log 6): a timeout is a positive natural that the 32-bit ELAPSED register can reach (R37). -/
def Config.Params.timeoutsOk (p : Config.Params) : Bool :=
  decide (0 < p.tInitMs) && decide (p.tInitMs < 2 ^ 32) && decide (0 < p.tAckMs) && decide (p.tAckMs < 2 ^ 32)

/-- Legal parameters (R5, R6). -/
def Config.Params.wf (p : Config.Params) : Bool := p.payloadOk && p.timeoutsOk

end Sys2Proof
end

