-- ==== Sys2Proof/Decode.lean ====
section
/-! DEFINITION. Decoding a command word, total on all 2^32 words and refusing by name (30_encoding.md R92, R93); the opcode table's (match, mask) pairs (R92); and after them the encoder, from the encodings of R91. -/

namespace Sys2Proof

/-- Why a word is illegal (R93). Every reason raises the same CmdError(ILLEGAL) (R232); the names keep them apart for a reader. -/
inductive IllegalWord where
  /-- RSV, bits [31:16], is not 0. -/
  | reservedBits
  /-- ARG is not 0 on an opcode other than CRC_BYTE. -/
  | unexpectedArg
  /-- OP is outside the table of R91. -/
  | unknownOp
  deriving DecidableEq, Repr

/-- The three fields of a command word (R90). -/
def fieldsOf (w : Word) : CommandFields :=
  { op := w.extractLsb' 0 8, arg := w.extractLsb' 8 8, rsv := w.extractLsb' 16 16 }

/-- The word with these three fields (R90). -/
def wordOf (f : CommandFields) : Word := f.rsv ++ f.arg ++ f.op

/-- A command without an operand: ARG must be 0 (R92). -/
def plainCommand (arg : Byte) (i : Instr) : Except IllegalWord Instr :=
  if arg = 0#8 then .ok i else .error .unexpectedArg

/-- The command that the fields select, or the reason there is none (R92). -/
def decodeFields (f : CommandFields) : Except IllegalWord Instr :=
  if f.rsv ≠ 0#16 then .error .reservedBits
  else if f.op = 0x02#8 then .ok (.crcByte f.arg)
  else if f.op = 0x00#8 then plainCommand f.arg .nop
  else if f.op = 0x01#8 then plainCommand f.arg .crcInit
  else if f.op = 0x08#8 then plainCommand f.arg .frameHdr
  else if f.op = 0x09#8 then plainCommand f.arg .frameData
  else if f.op = 0x0A#8 then plainCommand f.arg .frameEnd
  else if f.op = 0x0B#8 then plainCommand f.arg .frameCheck
  else if f.op = 0x10#8 then plainCommand f.arg .start
  else if f.op = 0x11#8 then plainCommand f.arg .clear
  else .error .unknownOp

/-- `decode` of R92, total on every word. -/
def decode (w : Word) : Except IllegalWord Instr := decodeFields (fieldsOf w)

/-- The decoder's answer for an instruction whose bits are `w`, numbered as spec/opcode_table.json numbers them. A command is exactly one 32-bit word (R90), the bits above `nbits` being 0; a number with a bit above bit 31 is no command word (log 14). -/
def decodeTableWord (nbits w : Nat) : Option Instr :=
  if w % 2 ^ nbits < 2 ^ 32 then (decode (BitVec.ofNat 32 (w % 2 ^ nbits))).toOption else none

/-- One row of the opcode table. -/
structure OpcodeRow where
  mnemonic : String
  matchBits : Word
  maskBits : Word
  deriving DecidableEq, Repr

/-- The (match, mask) pairs of spec/opcode_table.json (R92: "Equivalently, with the (match, mask) pairs"). -/
def opcodeTable : List OpcodeRow :=
  [ ⟨"NOP", 0x00000000#32, 0xFFFFFFFF#32⟩,
    ⟨"CRC_INIT", 0x00000001#32, 0xFFFFFFFF#32⟩,
    ⟨"CRC_BYTE", 0x00000002#32, 0xFFFF00FF#32⟩,
    ⟨"FRAME_HDR", 0x00000008#32, 0xFFFFFFFF#32⟩,
    ⟨"FRAME_DATA", 0x00000009#32, 0xFFFFFFFF#32⟩,
    ⟨"FRAME_END", 0x0000000A#32, 0xFFFFFFFF#32⟩,
    ⟨"FRAME_CHECK", 0x0000000B#32, 0xFFFFFFFF#32⟩,
    ⟨"START", 0x00000010#32, 0xFFFFFFFF#32⟩,
    ⟨"CLEAR", 0x00000011#32, 0xFFFFFFFF#32⟩ ]

/-- The word selects the row: `(w AND mask) = match` (R92). -/
def OpcodeRow.selects (r : OpcodeRow) (w : Word) : Bool := (w &&& r.maskBits) == r.matchBits

/-- The row's mnemonic for a command. -/
def Instr.mnemonic : Instr → String
  | .nop => "NOP"
  | .crcInit => "CRC_INIT"
  | .crcByte _ => "CRC_BYTE"
  | .frameHdr => "FRAME_HDR"
  | .frameData => "FRAME_DATA"
  | .frameEnd => "FRAME_END"
  | .frameCheck => "FRAME_CHECK"
  | .start => "START"
  | .clear => "CLEAR"

/-- The word a host writes to CMD for a command: the "Encoding" line of each command's rule (R123, R124, R146 to R149, R170 to R172). -/
def encode : Instr → Word
  | .nop => 0x00000000#32
  | .crcInit => 0x00000001#32
  | .crcByte b => wordOf { op := 0x02#8, arg := b, rsv := 0#16 }
  | .frameHdr => 0x00000008#32
  | .frameData => 0x00000009#32
  | .frameEnd => 0x0000000A#32
  | .frameCheck => 0x0000000B#32
  | .start => 0x00000010#32
  | .clear => 0x00000011#32

end Sys2Proof
end

