-- ==== Sys2Proof/Machine/State.lean ====
section
/-! DEFINITION. The machine's state as plain data: every register and buffer of 10_state.md, the channel and the outputs it drives (00_scope.md R10, R11), and the steps still to come (R8, R80). The two reasons a step can stop, and the state right after a power-on reset (R50, 70_reset_and_hazards.md R260, R263). -/

namespace Sys2Proof.Machine

open Sys2Proof.Config (Params)

/-- STATE, STATUS[3:0] (R21). Code 15 is never produced and has no constructor. -/
inductive SessionState where
  /-- 0: no session since reset or CLEAR. -/
  | idle
  /-- 1: wait for the receiver's first 'C'. -/
  | awaitInitialReady
  /-- 2: send the header frame. -/
  | sendHeader
  /-- 3: wait for the header's ACK. -/
  | awaitHdrAck
  /-- 4: wait for the 'C' that asks for data. -/
  | awaitHdrC
  /-- 5: send data block BLKIDX. -/
  | sendData
  /-- 6: wait for its ACK. -/
  | awaitDataAck
  /-- 7: send EOT. -/
  | sendEot
  /-- 8: wait for the EOT's ACK. -/
  | awaitEotAck
  /-- 9: wait for the 'C' that asks for the end-of-batch block. -/
  | awaitFinalC
  /-- 10: send the end-of-batch frame. -/
  | sendFinalHeader
  /-- 11: wait for its ACK. -/
  | awaitFinalAck
  /-- 12: send the cancel pair. -/
  | failCancel
  /-- 13: terminal, after a failure. -/
  | failed
  /-- 14: terminal, after a success. -/
  | succeeded
  deriving DecidableEq, Repr

/-- OUTCOME, STATUS[7:5] (R23). -/
inductive SessionOutcome where
  /-- 0: no session since reset or CLEAR. -/
  | none
  /-- 1. -/
  | pending
  /-- 2. -/
  | succeeded
  /-- 3. -/
  | failed
  /-- 4: reserved, "never produced by this hardware" (R23, R251). -/
  | cancelled
  deriving DecidableEq, Repr

/-- REASON, STATUS[11:8] (R24, R241). -/
inductive FailReason where
  /-- 0. -/
  | none
  /-- 1 (R242). -/
  | noCrcRequest
  /-- 2 (R243). -/
  | timeout
  /-- 3 (R244). -/
  | blockNotAcked
  /-- 4 (R245). -/
  | channelClosed
  deriving DecidableEq, Repr

/-- ERR, STATUS[15:12] (R25, R231). -/
inductive CmdError where
  /-- 0. -/
  | none
  /-- 1 (R232). -/
  | illegal
  /-- 2 (R233). -/
  | busy
  /-- 3 (R234). -/
  | lenRange
  /-- 4 (R235). -/
  | argRange
  deriving DecidableEq, Repr

/-- The channel oracle's answer to the transaction of the engine's turn (R10, log 3). -/
inductive ChAnswer where
  /-- To a `ChWrite`: `OK`. To a `ChRead`: `Byte(b)`, b the oldest byte the channel holds, or `None` if it holds none. -/
  | ok
  /-- To a `ChWrite`: no answer yet (R275). To a `ChRead`: `None`. -/
  | silent
  /-- `Err`: the channel is closed or failed. -/
  | err
  deriving DecidableEq, Repr

/-- One atomic step of one agent (R8, R80, R260). -/
inductive Event where
  /-- HOST: `HostRead(a)` (R60). -/
  | hostRead (a : Word)
  /-- HOST: `HostWrite(a, w)` (R60). -/
  | hostWrite (a w : Word)
  /-- ENGINE and CHANNEL: the engine's turn, its channel transaction answered so (R180). -/
  | engine (ans : ChAnswer)
  /-- TIMEBASE: one tick (R212). -/
  | tick
  /-- The peer makes a byte available on the channel (R110's PEER). -/
  | peer (b : Byte)
  /-- An agent other than the engine takes a byte from the channel (R266, R272). -/
  | foreignTake
  /-- An agent other than the engine writes to the channel (R266). -/
  | foreignWrite (bs : List Byte)
  /-- PLATFORM: a reset while powered; the buffers keep their contents (R260, R263). -/
  | reset
  /-- PLATFORM: a power-on reset; the buffers hold nothing (R257, R263). -/
  | powerOn
  deriving DecidableEq, Repr

/-- A channel transaction that has been answered, as the wire's observer sees it (R10, R72). -/
inductive ChTxn where
  /-- `ChWrite(bytes)` answered `OK` (true) or `Err` (false; how much left is not known, R72). -/
  | wrote (bytes : List Byte) (ok : Bool)
  /-- `ChRead()` answered `Byte(b)`. -/
  | got (b : Byte)
  /-- `ChRead()` answered `Err`. -/
  | readErr
  deriving DecidableEq, Repr

/-- One PROGRESS event (R206). -/
structure Progress where
  /-- Always 0: a session carries one file. -/
  fileIndex : Nat
  /-- NAME[0:m], m = min(NAMELEN, 64), as the NAME buffer holds it; `none` for a byte that holds no value (log 10). -/
  fileName : List (Option Byte)
  /-- LEN. -/
  totalBytes : Word
  /-- ACKED after the acknowledged block. -/
  bytesAcknowledged : Word
  deriving DecidableEq, Repr

/-- Buffer memory: (host address, byte) pairs, addresses strictly rising; an address not listed holds no value (R43). -/
abbrev Memory := List Host.Cell

/-- The whole state. Field by field: INVENTORY.md, '## State'. -/
structure State where
  /-- STATE (R21). -/
  state : SessionState
  /-- OUTCOME (R23). -/
  outcome : SessionOutcome
  /-- REASON (R24). -/
  reason : FailReason
  /-- ERR (R25). -/
  err : CmdError
  /-- CRC.ACC (R27). -/
  acc : Half
  /-- LEN (R28). -/
  len : Word
  /-- NAMELEN[7:0] (R29). -/
  nameLen : Byte
  /-- FBIDX (R30). -/
  fbIdx : Word
  /-- CHKRES (R31). -/
  chkRes : Word
  /-- BLKIDX (R32). -/
  blkIdx : Word
  /-- SEQ[7:0] (R33). -/
  seq : Byte
  /-- ACKED (R34). -/
  acked : Word
  /-- TOTBLK (R35). -/
  totBlk : Word
  /-- FAILBLK (R36). -/
  failBlk : Word
  /-- ELAPSED (R37). -/
  elapsed : Word
  /-- PROGCNT (R38). -/
  progCnt : Word
  /-- PAYLOAD_MAX (CAP, R39), T_INIT_MS, T_ACK_MS (R5): constant, no step writes them. -/
  params : Params
  /-- NAME, FRAME and PAYLOAD (R40 to R43, R61). -/
  mem : Memory
  /-- The bytes the peer has sent and nobody has read, oldest first (R10, R48 b). -/
  chan : List Byte
  /-- The engine's answered channel transactions, oldest first (log 9). -/
  wire : List ChTxn
  /-- The PROGRESS events emitted, oldest first (R11, log 9). -/
  progress : List Progress
  /-- The words HostRead has returned, oldest first (R60, log 9). -/
  reads : List Word
  /-- The model's own: how many free bytes host reads have drawn (R43, log 8). -/
  draws : Nat
  /-- The model's own: the steps still to come, the next one first (R8, R80, log 1). -/
  script : List Event
  deriving DecidableEq, Repr

/-- Why a step stops. Closed; each names who raises it. -/
inductive Fault where
  /-- Raised by `step` when the script holds no further step: "no agent can step" (R12; log 2). Safe: nothing is claimed of what the hardware would do next. -/
  | stuck
  /-- Raised by FRAME_HDR, FRAME_DATA, FRAME_CHECK and the engine's send steps when they use a buffer byte that no host write has written since power-on, at this host address: "A model should mark such bytes unwritten and treat any use of one as a fault" (R43; R278, I1, I20; log 7). Safe. -/
  | unwrittenByte (addr : Nat)
  /-- Raised by a foreign use of the channel while BUSY = 1: the run "is outside this spec" (R266, I12; log 11). Safe. -/
  | channelNotExclusive
  deriving DecidableEq, Repr

/-- Why an instruction has no meaning. Closed. -/
inductive Refusal where
  /-- Raised only by `exec`'s arm of an instruction without a meaning; no arm of this model does. Safe. -/
  | notModelled (mnemonic : String)
  deriving DecidableEq, Repr

/-- The machine right after a power-on reset (R50, R260, R263): every register at R50's value, no buffer byte written. The parameters and the environment's fields are the model's choice (logs 1, 5, 8, 9). -/
def State.reset : State :=
  { state := .idle, outcome := .none, reason := .none, err := .none,
    acc := 0#16, len := 0#32, nameLen := 0#8, fbIdx := 0#32, chkRes := 0#32,
    blkIdx := 0#32, seq := 0#8, acked := 0#32, totBlk := 0#32, failBlk := 0#32,
    elapsed := 0#32, progCnt := 0#32,
    params := Config.Params.default, mem := [],
    chan := [], wire := [], progress := [], reads := [], draws := 0, script := [] }

end Sys2Proof.Machine
end

