-- ==== Sys2Proof/Machine/Ops.lean ====
section
/-! DEFINITION. The named operations over memory and registers: buffer memory (20_memory.md R61, R63), the two exceptional events and the return from them (60_exceptions.md R230, R240, R248), the start of a session (42_sender.md R171), reset (70_reset_and_hazards.md R260 to R263), and the records of what the block puts out. -/

namespace Sys2Proof.Machine

open Sys2Proof.Config

/-! ## Buffer memory -/

/-- `MemRead(a, 1)` (R63); `none` where no host write has put a byte (R43). -/
def Memory.read : Memory → Nat → Option Byte
  | [], _ => none
  | (k, v) :: rest, a => if k = a then some v else Memory.read rest a

/-- `MemWrite(a, 1, b)` (R63), keeping the addresses strictly rising. -/
def Memory.write : Memory → Nat → Byte → Memory
  | [], a, b => [(a, b)]
  | (k, v) :: rest, a, b =>
    if a < k then (a, b) :: (k, v) :: rest
    else if a = k then (a, b) :: rest
    else (k, v) :: Memory.write rest a b

/-- `n` bytes from address `a` on, or the address of the first one that holds no value (R43, log 7). -/
def Memory.readRange (m : Memory) : Nat → Nat → Except Nat (List Byte)
  | _, 0 => .ok []
  | a, n + 1 =>
    match Memory.read m a with
    | none => .error a
    | some b =>
      match Memory.readRange m (a + 1) n with
      | .ok bs => .ok (b :: bs)
      | .error e => .error e

/-- The bytes `bs` stored from address `a` on. -/
def Memory.writeRange : Memory → Nat → List Byte → Memory
  | m, _, [] => m
  | m, a, b :: bs => Memory.writeRange (Memory.write m a b) (a + 1) bs

/-- The canonical form: addresses strictly rising, so that equal memories are equal lists. An unlisted address holds no value, so no entry can repeat what an unlisted address reads as. -/
def Memory.wf (m : Memory) : Bool := decide (m.Pairwise (fun x y => x.1 < y.1))

/-! ## The buffers' regions (R61) -/

/-- Host addresses of NAME[0..63]. -/
def inName (a : Nat) : Bool := decide (nameBase ≤ a) && decide (a < nameBase + nameMax)

/-- Host addresses of FRAME[0..132]. -/
def inFrame (a : Nat) : Bool := decide (frameBase ≤ a) && decide (a < frameBase + frameSize)

/-- Host addresses of PAYLOAD[0..PAYLOAD_MAX-1]; none if PAYLOAD_MAX = 0. -/
def inPayload (p : Params) (a : Nat) : Bool :=
  decide (payloadBase ≤ a) && decide (a < payloadBase + p.payloadMax.toNat)

/-- Host addresses of buffer bytes. -/
def isBuffer (p : Params) (a : Nat) : Bool := inName a || inFrame a || inPayload p a

/-! ## The two exceptional events, and the return -/

/-- `raise CmdError(code)` (R230): the first error since the last CLEAR or reset is kept; nothing else changes. -/
def raiseCmdError (code : CmdError) (s : State) : State :=
  if s.err = .none then { s with err := code } else s

/-- `raise SessionFail(reason)` (R240): the next engine step writes the cancel pair; every counter keeps its value. -/
def sessionFail (reason : FailReason) (s : State) : State :=
  { s with reason := reason, outcome := .failed, state := .failCancel }

/-- Every session register back to 0 and the session's three STATUS fields back to IDLE, NONE, NONE: what CLEAR and reset share (R172, R32 to R38, R260). -/
def endSession (s : State) : State :=
  { s with
    state := .idle, outcome := .none, reason := .none,
    blkIdx := 0#32, seq := 0#8, acked := 0#32, totBlk := 0#32,
    failBlk := 0#32, elapsed := 0#32, progCnt := 0#32 }

/-- The return from a command error and from a terminal state that CLEAR makes (R172, R248). -/
def clearReturn (s : State) : State := { endSession s with err := .none }

/-! ## Sessions and reset -/

/-- `totalBlocks(len) = ceil(len / 128)` (R145). -/
def totalBlocks (len : Nat) : Nat := (len + 127) / 128

/-- What an accepted START does (R171): also the return from a terminal state into a new session (R248). -/
def beginSession (s : State) : State :=
  { s with
    totBlk := BitVec.ofNat 32 (totalBlocks s.len.toNat),
    blkIdx := 1#32, seq := 1#8, acked := 0#32, progCnt := 0#32, failBlk := 0#32, elapsed := 0#32,
    reason := .none, outcome := .pending, state := .awaitInitialReady }

/-- A reset while powered (R260, R261): every register to R50's value; NAME, FRAME, PAYLOAD and the channel's bytes stay. -/
def warmReset (s : State) : State :=
  { endSession s with
    err := .none, acc := crcInitValue, len := 0#32, nameLen := 0#8, fbIdx := 0#32, chkRes := 0#32 }

/-- A power-on reset (R260, R263): as a reset while powered, and no buffer byte holds a value. -/
def powerOnReset (s : State) : State := { warmReset s with mem := [] }

/-! ## What the block puts out (log 9) -/

/-- Record an answered channel transaction (R10). -/
def recordTxn (t : ChTxn) (s : State) : State := { s with wire := s.wire ++ [t] }

/-- Record the word a host read returned (R60). -/
def recordRead (w : Word) (s : State) : State := { s with reads := s.reads ++ [w] }

/-- Record a PROGRESS event (R206). -/
def emitProgress (p : Progress) (s : State) : State := { s with progress := s.progress ++ [p] }

end Sys2Proof.Machine
end

