-- ==== Sys2Proof/Machine/Flags.lean ====
section
/-! DEFINITION. Every status field: the codes and views of STATUS (10_state.md R21 to R26), the fields of CHKRES (R31, 41_framing.md R149), and the busy lockout that BUSY imposes (60_exceptions.md R233). -/

namespace Sys2Proof.Machine

/-- The code of STATE (R21). -/
def SessionState.code : SessionState → Word
  | .idle => 0#32
  | .awaitInitialReady => 1#32
  | .sendHeader => 2#32
  | .awaitHdrAck => 3#32
  | .awaitHdrC => 4#32
  | .sendData => 5#32
  | .awaitDataAck => 6#32
  | .sendEot => 7#32
  | .awaitEotAck => 8#32
  | .awaitFinalC => 9#32
  | .sendFinalHeader => 10#32
  | .awaitFinalAck => 11#32
  | .failCancel => 12#32
  | .failed => 13#32
  | .succeeded => 14#32

/-- The code of OUTCOME (R23). -/
def SessionOutcome.code : SessionOutcome → Word
  | .none => 0#32
  | .pending => 1#32
  | .succeeded => 2#32
  | .failed => 3#32
  | .cancelled => 4#32

/-- The code of REASON (R24, R241). -/
def FailReason.code : FailReason → Word
  | .none => 0#32
  | .noCrcRequest => 1#32
  | .timeout => 2#32
  | .blockNotAcked => 3#32
  | .channelClosed => 4#32

/-- The code of ERR (R25, R231). -/
def CmdError.code : CmdError → Word
  | .none => 0#32
  | .illegal => 1#32
  | .busy => 2#32
  | .lenRange => 3#32
  | .argRange => 4#32

/-- BUSY (R22): 1 exactly when STATE is in 1..12. -/
def SessionState.busy : SessionState → Bool
  | .idle => false
  | .awaitInitialReady => true
  | .sendHeader => true
  | .awaitHdrAck => true
  | .awaitHdrC => true
  | .sendData => true
  | .awaitDataAck => true
  | .sendEot => true
  | .awaitEotAck => true
  | .awaitFinalC => true
  | .sendFinalHeader => true
  | .awaitFinalAck => true
  | .failCancel => true
  | .failed => false
  | .succeeded => false

/-- DONE, STATUS[16] and the DONE output (R26, R11): 1 exactly in FAILED and SUCCEEDED. -/
def SessionState.done : SessionState → Bool
  | .idle => false
  | .awaitInitialReady => false
  | .sendHeader => false
  | .awaitHdrAck => false
  | .awaitHdrC => false
  | .sendData => false
  | .awaitDataAck => false
  | .sendEot => false
  | .awaitEotAck => false
  | .awaitFinalC => false
  | .sendFinalHeader => false
  | .awaitFinalAck => false
  | .failCancel => false
  | .failed => true
  | .succeeded => true

/-- x[STATUS].BUSY. -/
def State.busy (s : State) : Bool := s.state.busy

/-- x[STATUS].DONE. -/
def State.done (s : State) : Bool := s.state.done

/-- One bit as a word. -/
def bit (b : Bool) : Word := if b then 1#32 else 0#32

/-- The STATUS word (R21 to R26); STATUS[31:17] read 0. -/
def statusWord (s : State) : Word :=
  s.state.code ||| (bit s.busy <<< 4) ||| (s.outcome.code <<< 5) ||| (s.reason.code <<< 8)
    ||| (s.err.code <<< 12) ||| (bit s.done <<< 16)

/-- The CHKRES word of R149's pseudocode: CRC_CALC, BLKNUM and the four checks, VALID being MARKER_OK AND COMPL_OK AND CRC_OK. -/
def chkResWord (crcCalc : Half) (blkNum : Byte) (seqOk crcOk complOk markerOk : Bool) : Word :=
  (crcCalc.setWidth 32 <<< 16) ||| (blkNum.setWidth 32 <<< 8) ||| (bit seqOk <<< 4) ||| (bit crcOk <<< 3)
    ||| (bit complOk <<< 2) ||| (bit markerOk <<< 1) ||| bit (markerOk && complOk && crcOk)

/-- The busy lockout (R66, R233): while BUSY = 1 the transaction raises CmdError(BUSY) and does nothing else. -/
def unlessBusy (s : State) (act : Host.Outcome State Fault Refusal) : Host.Outcome State Fault Refusal :=
  if s.busy then .next (raiseCmdError .busy s) else act

end Sys2Proof.Machine
end

