-- ==== Sys2Proof/Machine/Operands.lean ====
section
/-! DEFINITION. Every operand form (30_encoding.md R94): the registers a host transaction addresses and what they read (10_state.md R20 to R39, 20_memory.md R61, R62), and the buffer bytes a command or the session uses (R40 to R42). -/

namespace Sys2Proof.Machine

open Sys2Proof.Config

/-- The host-visible registers (R20). -/
inductive Reg where
  | cmd | status | crc | len | nameLen | fbIdx | chkRes | blkIdx | seq | acked | totBlk | failBlk
  | elapsed | progCnt | cap
  deriving DecidableEq, Repr

/-- The register at a word address (R20, R61). -/
def regAt : Nat → Option Reg
  | 0x000 => some .cmd
  | 0x001 => some .status
  | 0x002 => some .crc
  | 0x003 => some .len
  | 0x004 => some .nameLen
  | 0x005 => some .fbIdx
  | 0x006 => some .chkRes
  | 0x007 => some .blkIdx
  | 0x008 => some .seq
  | 0x009 => some .acked
  | 0x00A => some .totBlk
  | 0x00B => some .failBlk
  | 0x00C => some .elapsed
  | 0x00D => some .progCnt
  | 0x00E => some .cap
  | _ => none

/-- x[NAME]: the 32-bit value a host read of the register returns; bits above a field's width read 0 (R20 to R39, R44, I9). -/
def readReg (s : State) : Reg → Word
  | .cmd => 0#32
  | .status => statusWord s
  | .crc => s.acc.setWidth 32
  | .len => s.len
  | .nameLen => s.nameLen.setWidth 32
  | .fbIdx => s.fbIdx
  | .chkRes => s.chkRes
  | .blkIdx => s.blkIdx
  | .seq => s.seq.setWidth 32
  | .acked => s.acked
  | .totBlk => s.totBlk
  | .failBlk => s.failBlk
  | .elapsed => s.elapsed
  | .progCnt => s.progCnt
  | .cap => s.params.payloadMax

/-- m = min(NAMELEN, 64), the filename bytes the block uses (R29, R142). -/
def nameUsed (s : State) : Nat := min s.nameLen.toNat nameMax

/-- NAME[0:m], or the address of the first of them that holds no value. -/
def nameBytes (s : State) : Except Nat (List Byte) := s.mem.readRange nameBase (nameUsed s)

/-- NAME[0:m] as a PROGRESS event refers to it (R206, log 10). -/
def nameReference (s : State) : List (Option Byte) :=
  (List.range (nameUsed s)).map (fun i => s.mem.read (nameBase + i))

/-- First byte index of data block n (R143). -/
def sliceStart (n : Nat) : Nat := (n - 1) * blockSize

/-- Byte index past the last of data block n (R143). -/
def sliceEnd (s : State) (n : Nat) : Nat := min (n * blockSize) s.len.toNat

/-- PAYLOAD[start:end] of data block n, empty when start >= LEN (R143), or the address of its first byte that holds no value. -/
def payloadSlice (s : State) (n : Nat) : Except Nat (List Byte) :=
  s.mem.readRange (payloadBase + sliceStart n) (sliceEnd s n - sliceStart n)

/-- FRAME[0..132] (R41), or the address of its first byte that holds no value. -/
def frameBytes (s : State) : Except Nat (List Byte) := s.mem.readRange frameBase frameSize

/-- The 133 bytes of a frame into FRAME (R41). -/
def storeFrame (f : List Byte) (s : State) : State := { s with mem := s.mem.writeRange frameBase f }

end Sys2Proof.Machine
end

