-- ==== Sys2Proof/Machine/Control.lean ====
section
/-! DEFINITION. The control commands NOP, START and CLEAR (42_sender.md R170 to R172). -/

namespace Sys2Proof.Machine

/-- NOP (R170): no state changes; accepted while busy. -/
def execNop (s : State) : Host.Outcome State Fault Refusal := .next s

/-- START (R171): BUSY, LEN_RANGE in that priority; accepted from IDLE, FAILED and SUCCEEDED alike; ERR and the channel are not touched. -/
def execStart (s : State) : Host.Outcome State Fault Refusal :=
  unlessBusy s (
    if s.params.payloadMax < s.len then .next (raiseCmdError .lenRange s)
    else .next (beginSession s))

/-- CLEAR (R172): a CLEAR while busy does not stop the session (R247). -/
def execClear (s : State) : Host.Outcome State Fault Refusal := unlessBusy s (.next (clearReturn s))

end Sys2Proof.Machine
end

