-- ==== Sys2Proof/Machine/Checksum.lean ====
section
/-! DEFINITION. The CRC-16/XMODEM function (40_checksum.md R120) and the two commands of the host generator (R123, R124). -/

namespace Sys2Proof.Machine

open Sys2Proof.Config

/-- One of the 8 rounds of R120: shift left by one, XOR the polynomial if the high bit was set. 16 bits wide, so each round masks (R121). -/
def crcRound (a : Half) : Half := if a &&& 0x8000#16 ≠ 0#16 then (a <<< 1) ^^^ poly else a <<< 1

/-- `n` rounds. -/
def crcRounds : Nat → Half → Half
  | 0, a => a
  | n + 1, a => crcRounds n (crcRound a)

/-- `crc_update(acc, b)` (R120): the byte goes into the high octet, then 8 rounds. -/
def crcUpdate (acc : Half) (b : Byte) : Half := crcRounds 8 (acc ^^^ (b.setWidth 16 <<< 8))

/-- `crc16(s)` (R120), from the initial value each time (R126). -/
def crc16 (bs : List Byte) : Half := bs.foldl crcUpdate crcInitValue

/-- CRC_INIT (R123): ACC <- 0x0000; accepted while busy. -/
def execCrcInit (s : State) : Host.Outcome State Fault Refusal := .next { s with acc := crcInitValue }

/-- CRC_BYTE b (R124): ACC <- crc_update(ACC, b); accepted while busy. -/
def execCrcByte (b : Byte) (s : State) : Host.Outcome State Fault Refusal :=
  .next { s with acc := crcUpdate s.acc b }

end Sys2Proof.Machine
end

