-- ==== Sys2Proof/Machine/Framing.lean ====
section
/-! DEFINITION. The frame functions (41_framing.md R140 to R144), the frame checker (R149), and the four frame commands (R146 to R149). -/

namespace Sys2Proof.Machine

open Sys2Proof.Config

/-- `frame(num, p)` (R140, R100): marker, block number, complement, payload, CRC high byte first. -/
def frame (num : Byte) (p : List Byte) : List Byte :=
  [sohByte, num, 255#8 - num] ++ p ++ [(crc16 p).extractLsb' 8 8, (crc16 p).extractLsb' 0 8]

/-- The digits of `v`, most significant first, before those already written; `fuel` bounds how many. -/
def decimalDigits : Nat → Nat → List Byte → List Byte
  | 0, _, done => done
  | fuel + 1, v, done =>
    if v < 10 then BitVec.ofNat 8 (0x30 + v) :: done
    else decimalDigits fuel (v / 10) (BitVec.ofNat 8 (0x30 + v % 10) :: done)

/-- `decimal(v)` (R141): ASCII, most significant digit first, no sign, no leading zeros; 1 to 10 bytes for a u32. -/
def decimal (v : Word) : List Byte := decimalDigits 10 v.toNat []

/-- `bs` filled up to a payload of 128 bytes with `x` (R142, R143). -/
def padBlock (x : Byte) (bs : List Byte) : List Byte := bs ++ List.replicate (blockSize - bs.length) x

/-- The header payload for a name and a length (R142). -/
def headerText (name : List Byte) (len : Word) : List Byte := padBlock hdrPad (name ++ [0x00#8] ++ decimal len)

/-- `headerPayload()` (R142), or the address of a NAME byte it uses that holds no value. -/
def headerPayload (s : State) : Except Nat (List Byte) :=
  match nameBytes s with
  | .ok name => .ok (headerText name s.len)
  | .error a => .error a

/-- `dataPayload(n)` (R143), or the address of a PAYLOAD byte it uses that holds no value. -/
def dataPayload (s : State) (n : Nat) : Except Nat (List Byte) :=
  match payloadSlice s n with
  | .ok bs => .ok (padBlock dataPad bs)
  | .error a => .error a

/-- `endPayload()` (R144): 128 bytes of 0x00. -/
def endPayload : List Byte := List.replicate blockSize 0x00#8

/-- The CHKRES word for the 133 bytes `f` of FRAME and the expected index FBIDX (R149, R31). -/
def checkFrame (f : List Byte) (fbIdx : Word) : Word :=
  let byte := fun i => f.getD i 0#8
  let c := crc16 ((f.drop 3).take blockSize)
  let mk := decide (byte 0 = sohByte)
  let cp := decide (byte 2 = 255#8 - byte 1)
  let ck := decide (byte 131 ++ byte 132 = c)
  let sq := decide ((byte 1).toNat = fbIdx.toNat % 256)
  chkResWord c (byte 1) sq ck cp mk

/-- FRAME_HDR (R146). LEN is not checked: the header reads no payload. -/
def execFrameHdr (s : State) : Host.Outcome State Fault Refusal :=
  unlessBusy s (
    match headerPayload s with
    | .ok p => .next (storeFrame (frame 0#8 p) s)
    | .error a => .fault (.unwrittenByte a))

/-- FRAME_DATA (R147): BUSY, LEN_RANGE, ARG_RANGE in that priority (R236); the block number is FBIDX mod 256. -/
def execFrameData (s : State) : Host.Outcome State Fault Refusal :=
  unlessBusy s (
    if s.params.payloadMax < s.len then .next (raiseCmdError .lenRange s)
    else if s.fbIdx = 0#32 then .next (raiseCmdError .argRange s)
    else match dataPayload s s.fbIdx.toNat with
      | .ok p => .next (storeFrame (frame (BitVec.ofNat 8 (s.fbIdx.toNat % 256)) p) s)
      | .error a => .fault (.unwrittenByte a))

/-- FRAME_END (R148). -/
def execFrameEnd (s : State) : Host.Outcome State Fault Refusal :=
  unlessBusy s (.next (storeFrame (frame 0#8 endPayload) s))

/-- FRAME_CHECK (R149): an invalid frame is a result, not an error. -/
def execFrameCheck (s : State) : Host.Outcome State Fault Refusal :=
  unlessBusy s (
    match frameBytes s with
    | .ok f => .next { s with chkRes := checkFrame f s.fbIdx }
    | .error a => .fault (.unwrittenByte a))

end Sys2Proof.Machine
end

