-- ==== Sys2Proof/Machine/Dispatch.lean ====
section
/-! DEFINITION. One arm per command (30_encoding.md R91, R92). -/

namespace Sys2Proof.Machine

def exec (i : Instr) (s : State) : Host.Outcome State Fault Refusal :=
  match i with
  | .nop => Sys2Proof.Machine.execNop s
  | .crcInit => Sys2Proof.Machine.execCrcInit s
  | .crcByte b => Sys2Proof.Machine.execCrcByte b s
  | .frameHdr => Sys2Proof.Machine.execFrameHdr s
  | .frameData => Sys2Proof.Machine.execFrameData s
  | .frameEnd => Sys2Proof.Machine.execFrameEnd s
  | .frameCheck => Sys2Proof.Machine.execFrameCheck s
  | .start => Sys2Proof.Machine.execStart s
  | .clear => Sys2Proof.Machine.execClear s

end Sys2Proof.Machine
end

