-- ==== Sys2Proof/Machine/Engine.lean ====
section
/-! DEFINITION. The sender session: the engine's step in each of states 1 to 12, the tick, and the failure path (42_sender.md R180 to R217, 60_exceptions.md R240 to R250). -/

namespace Sys2Proof.Machine

open Sys2Proof.Config

/-- Which of the two timeouts bounds a wait (R212, R280). -/
inductive WaitClass where
  /-- `T_INIT_MS`. -/
  | initial
  /-- `T_ACK_MS`. -/
  | ordinary
  deriving DecidableEq, Repr

/-- What the engine does in a state (R180, R193). -/
inductive EngineRole where
  /-- No engine step: IDLE, FAILED, SUCCEEDED. -/
  | rest
  /-- One `ChWrite`. -/
  | send
  /-- A bounded wait for the byte `expected`. -/
  | wait (expected : Byte) (cls : WaitClass)
  deriving DecidableEq, Repr

/-- The kind column of R21's table, with each wait's expected byte and timeout (R181 to R191, R280). -/
def roleOf : SessionState → EngineRole
  | .idle => .rest
  | .awaitInitialReady => .wait crcReq .initial
  | .sendHeader => .send
  | .awaitHdrAck => .wait ackByte .ordinary
  | .awaitHdrC => .wait crcReq .ordinary
  | .sendData => .send
  | .awaitDataAck => .wait ackByte .ordinary
  | .sendEot => .send
  | .awaitEotAck => .wait ackByte .ordinary
  | .awaitFinalC => .wait crcReq .ordinary
  | .sendFinalHeader => .send
  | .awaitFinalAck => .wait ackByte .ordinary
  | .failCancel => .send
  | .failed => .rest
  | .succeeded => .rest

/-- The wait's timeout in ticks (R212, R280). -/
def WaitClass.ticks (p : Params) : WaitClass → Nat
  | .initial => p.tInitMs
  | .ordinary => p.tAckMs

/-- Enter a wait state: `x[ELAPSED] <- 0` in the same step (R180, R37). -/
def enterWait (st : SessionState) (s : State) : State := { s with elapsed := 0#32, state := st }

/-- Enter a state that is no wait; ELAPSED keeps its value (R37). -/
def enterState (st : SessionState) (s : State) : State := { s with state := st }

/-! ## Send states -/

/-- The header frame the session sends (R182). -/
def headerFrame (s : State) : Except Nat (List Byte) :=
  match headerPayload s with
  | .ok p => .ok (frame 0#8 p)
  | .error a => .error a

/-- The frame of data block n with the block number `num` (R185). -/
def dataFrame (s : State) (num : Byte) (n : Nat) : Except Nat (List Byte) :=
  match dataPayload s n with
  | .ok p => .ok (frame num p)
  | .error a => .error a

/-- The end-of-batch frame (R190, R144). -/
def endFrame : List Byte := frame 0#8 endPayload

/-- The cancel pair (R192). -/
def cancelPair : List Byte := [canByte, canByte]

/-- The sequence the state's `ChWrite` carries, computed at the send step from the locked inputs (R48 a, R182, R185, R187, R190, R192), or the address of a buffer byte it uses that holds no value (R43). A state that is no send state writes nothing. -/
def bytesToSend (s : State) : Except Nat (List Byte) :=
  match s.state with
  | .sendHeader => headerFrame s
  | .sendData => dataFrame s s.seq s.blkIdx.toNat
  | .sendEot => .ok [eotByte]
  | .sendFinalHeader => .ok endFrame
  | .failCancel => .ok cancelPair
  | .idle => .ok []
  | .awaitInitialReady => .ok []
  | .awaitHdrAck => .ok []
  | .awaitHdrC => .ok []
  | .awaitDataAck => .ok []
  | .awaitEotAck => .ok []
  | .awaitFinalC => .ok []
  | .awaitFinalAck => .ok []
  | .failed => .ok []
  | .succeeded => .ok []

/-- The transition of a send state whose write was answered `OK` (R182, R185, R187, R190, R192). -/
def afterWriteOk (s : State) : State :=
  match s.state with
  | .sendHeader => enterWait .awaitHdrAck s
  | .sendData => enterWait .awaitDataAck s
  | .sendEot => enterWait .awaitEotAck s
  | .sendFinalHeader => enterWait .awaitFinalAck s
  | .failCancel => enterState .failed s
  | .idle => s
  | .awaitInitialReady => s
  | .awaitHdrAck => s
  | .awaitHdrC => s
  | .awaitDataAck => s
  | .awaitEotAck => s
  | .awaitFinalC => s
  | .awaitFinalAck => s
  | .failed => s
  | .succeeded => s

/-- The transition of a send state whose write was answered `Err`: CHANNEL_CLOSED (R245), but the cancel write's error is swallowed (R192). -/
def afterWriteErr (s : State) : State :=
  if s.state = .failCancel then enterState .failed s else sessionFail .channelClosed s

/-! ## Wait states -/

/-- The bytes acknowledged with data block BLKIDX: `min(x[BLKIDX] * 128, x[LEN])` (R186). -/
def ackedBytes (s : State) : Word := BitVec.ofNat 32 (min (s.blkIdx.toNat * blockSize) s.len.toNat)

/-- Count an acknowledged data block: ACKED, PROGCNT and the PROGRESS event (R186, R206). -/
def countBlock (s : State) : State :=
  emitProgress
    { fileIndex := 0, fileName := nameReference s, totalBytes := s.len, bytesAcknowledged := ackedBytes s }
    { s with acked := ackedBytes s, progCnt := s.progCnt + 1#32 }

/-- Go on to the next data block: BLKIDX and SEQ advance together (R186, R200). -/
def nextBlock (s : State) : State :=
  enterState .sendData { s with blkIdx := s.blkIdx + 1#32, seq := s.seq + 1#8 }

/-- The match of AWAIT_DATA_ACK (R186): the block is counted, then EOT or the next block. -/
def dataBlockAcked (s : State) : State :=
  if s.blkIdx = s.totBlk then enterState .sendEot (countBlock s) else nextBlock (countBlock s)

/-- The match transition of a wait state (R181, R183, R184, R186, R188, R189, R191). -/
def onMatch (s : State) : State :=
  match s.state with
  | .awaitInitialReady => enterState .sendHeader s
  | .awaitHdrAck => enterWait .awaitHdrC s
  | .awaitHdrC => if s.totBlk = 0#32 then enterState .sendEot s else enterState .sendData s
  | .awaitDataAck => dataBlockAcked s
  | .awaitEotAck => enterWait .awaitFinalC s
  | .awaitFinalC => enterState .sendFinalHeader s
  | .awaitFinalAck => { s with outcome := .succeeded, state := .succeeded }
  | .idle => s
  | .sendHeader => s
  | .sendData => s
  | .sendEot => s
  | .sendFinalHeader => s
  | .failCancel => s
  | .failed => s
  | .succeeded => s

/-- The miss transition of a wait state: a byte other than the expected one, or the timeout (R242 to R244). -/
def onMiss (s : State) : State :=
  match s.state with
  | .awaitInitialReady => sessionFail .noCrcRequest s
  | .awaitHdrAck => sessionFail .timeout s
  | .awaitHdrC => sessionFail .timeout s
  | .awaitDataAck => sessionFail .blockNotAcked { s with failBlk := s.blkIdx }
  | .awaitEotAck => sessionFail .timeout s
  | .awaitFinalC => sessionFail .timeout s
  | .awaitFinalAck => sessionFail .timeout s
  | .idle => s
  | .sendHeader => s
  | .sendData => s
  | .sendEot => s
  | .sendFinalHeader => s
  | .failCancel => s
  | .failed => s
  | .succeeded => s

/-- A `ChRead()` answered `Byte(b)` (R180). -/
def onByte (expected b : Byte) (s : State) : State := if b = expected then onMatch s else onMiss s

/-! ## The engine's turn and the tick -/

/-- The engine's turn in a send state (R180, R213: no timeout on a write). -/
def sendTurn (ans : ChAnswer) (s : State) : Host.Outcome State Fault Refusal :=
  match ans with
  | .silent => .next s
  | .ok =>
    match bytesToSend s with
    | .ok bs => .next (afterWriteOk (recordTxn (.wrote bs true) s))
    | .error a => .fault (.unwrittenByte a)
  | .err =>
    match bytesToSend s with
    | .ok bs => .next (afterWriteErr (recordTxn (.wrote bs false) s))
    | .error a => .fault (.unwrittenByte a)

/-- The engine's turn in a wait state (R180): a byte read is consumed; `None` changes nothing (R214). -/
def waitTurn (expected : Byte) (ans : ChAnswer) (s : State) : State :=
  match ans with
  | .silent => s
  | .err => sessionFail .channelClosed (recordTxn .readErr s)
  | .ok =>
    match s.chan with
    | [] => s
    | b :: rest => onByte expected b (recordTxn (.got b) { s with chan := rest })

/-- The engine's turn (R180); in IDLE, FAILED and SUCCEEDED it has no step (R193, R215). -/
def engineTurn (ans : ChAnswer) (s : State) : Host.Outcome State Fault Refusal :=
  match roleOf s.state with
  | .rest => .next s
  | .send => sendTurn ans s
  | .wait e _ => .next (waitTurn e ans s)

/-- ELAPSED advanced by one tick (R212). -/
def advanceElapsed (s : State) : State := { s with elapsed := s.elapsed + 1#32 }

/-- One tick (R180, R212, R213): it counts only in a wait state, and the tick that makes ELAPSED reach the timeout ends the wait. -/
def tickTurn (s : State) : State :=
  match roleOf s.state with
  | .rest => s
  | .send => s
  | .wait _ cls =>
    if cls.ticks s.params ≤ (advanceElapsed s).elapsed.toNat then onMiss (advanceElapsed s)
    else advanceElapsed s

end Sys2Proof.Machine
end

