-- ==== Sys2Proof/Machine/Bus.lean ====
section
/-! DEFINITION. The host's transactions (20_memory.md R60 to R67) and the steps of the other agents (00_scope.md R8, 70_reset_and_hazards.md R260, R266): what one event does. -/

namespace Sys2Proof.Machine

open Sys2Proof.Config

/-- The word `HostRead(a)` returns when it needs no free value: a register (R62), a buffer byte that holds a value (R63), or 0 for an unmapped address (R64); `none` for a buffer byte that holds none (R43). -/
def readWord (a : Nat) (s : State) : Option Word :=
  match regAt a with
  | some r => some (readReg s r)
  | none => if isBuffer s.params a then (s.mem.read a).map (BitVec.setWidth 32) else some 0#32

/-- `HostRead(a)` (R60, R67): nothing of the block changes. An unwritten buffer byte returns a fresh free byte (R43, log 8). -/
def hostRead (a : Word) (s : State) : State :=
  match readWord a.toNat s with
  | some w => recordRead w s
  | none => recordRead ((freeByte s.draws).setWidth 32) { s with draws := s.draws + 1 }

/-- A write to CMD executes the command the word encodes, or raises CmdError(ILLEGAL) (R44, R92, R93). -/
def writeCmd (w : Word) (s : State) : Host.Outcome State Fault Refusal :=
  match decode w with
  | .ok i => exec i s
  | .error _ => .next (raiseCmdError .illegal s)

/-- A write to a register (R62, R65, R66). -/
def writeReg (r : Reg) (w : Word) (s : State) : Host.Outcome State Fault Refusal :=
  match r with
  | .cmd => writeCmd w s
  | .len => unlessBusy s (.next { s with len := w })
  | .nameLen => unlessBusy s (.next { s with nameLen := w.setWidth 8 })
  | .fbIdx => unlessBusy s (.next { s with fbIdx := w })
  | .status => .next s
  | .crc => .next s
  | .chkRes => .next s
  | .blkIdx => .next s
  | .seq => .next s
  | .acked => .next s
  | .totBlk => .next s
  | .failBlk => .next s
  | .elapsed => .next s
  | .progCnt => .next s
  | .cap => .next s

/-- A write to a buffer byte: w[7:0], w[31:8] ignored (R63, R66). -/
def writeBuffer (a : Nat) (w : Word) (s : State) : Host.Outcome State Fault Refusal :=
  unlessBusy s (.next { s with mem := s.mem.write a (w.setWidth 8) })

/-- `HostWrite(a, w)` (R60 to R66); an unmapped address is ignored (R64). -/
def hostWrite (a w : Word) (s : State) : Host.Outcome State Fault Refusal :=
  match regAt a.toNat with
  | some r => writeReg r w s
  | none => if isBuffer s.params a.toNat then writeBuffer a.toNat w s else .next s

/-- The peer makes a byte available; the channel keeps arrival order (R10). -/
def peerSends (b : Byte) (s : State) : State := { s with chan := s.chan ++ [b] }

/-- Another agent takes a byte from the channel: allowed while BUSY = 0, as a drain before START (R272); while BUSY = 1 the run is outside the spec (R266, I12, log 11). -/
def foreignTakes (s : State) : Host.Outcome State Fault Refusal :=
  if s.busy then .fault .channelNotExclusive else .next { s with chan := s.chan.drop 1 }

/-- Another agent writes to the channel: while BUSY = 0 the block sees nothing of it; while BUSY = 1 the run is outside the spec (R266, I12, log 11). -/
def foreignWrites (_bs : List Byte) (s : State) : Host.Outcome State Fault Refusal :=
  if s.busy then .fault .channelNotExclusive else .next s

/-- One step of one agent (R8, R80). -/
def runEvent (e : Event) (s : State) : Host.Outcome State Fault Refusal :=
  match e with
  | .hostRead a => .next (hostRead a s)
  | .hostWrite a w => hostWrite a w s
  | .engine ans => engineTurn ans s
  | .tick => .next (tickTurn s)
  | .peer b => .next (peerSends b s)
  | .foreignTake => foreignTakes s
  | .foreignWrite bs => foreignWrites bs s
  | .reset => .next (warmReset s)
  | .powerOn => .next (powerOnReset s)

end Sys2Proof.Machine
end

