-- ==== Sys2Proof/Machine/Step.lean ====
section
/-! DEFINITION. One step of the machine: the next step of the script, whichever agent takes it (00_scope.md R8, R80). -/

namespace Sys2Proof.Machine

/-- The state with its script's head taken. -/
def State.withScript (s : State) (rest : List Event) : State := { s with script := rest }

/-- One step: the script's head, run on the state without it. With no step left no agent can step: `stuck` (R12, log 2). -/
def step (s : State) : Host.Outcome State Fault Refusal :=
  match s.script with
  | [] => .fault .stuck
  | e :: rest => runEvent e (s.withScript rest)

/-- The state whose very next step is the host's write of the command word to CMD, the one way an instruction reaches the block (R9, R44, log 12). Nothing else changes. -/
def State.withFetchWord (s : State) (nbits w : Nat) : State :=
  s.withScript (.hostWrite 0#32 (BitVec.ofNat 32 (w % 2 ^ nbits)) :: s.script)

end Sys2Proof.Machine
end

