-- ==== Sys2Proof/Machine/HostProgram.lean ====
section
/-! DEFINITION. A host program's items as steps (30_encoding.md R110) and the pseudo-instructions' expansions (R111): "the block sees only the expanded transactions". -/

namespace Sys2Proof.Machine

open Sys2Proof.Config

/-- `<MNEMONIC>`: `WR 0x000, <encoding>` (R110). -/
def issue (i : Instr) : Event := .hostWrite 0#32 (encode i)

/-- `WR base + k, bs[k]` for each byte of `bs`. DESIGN CHOICE (log 22): R111 gives no address past 2^32, and there the address wraps modulo 2^32, on to CMD. -/
def writeBytes : Nat → List Byte → List Event
  | _, [] => []
  | a, b :: bs => .hostWrite (BitVec.ofNat 32 a) (b.setWidth 32) :: writeBytes (a + 1) bs

/-- `CRC_STR "s"` (R111). -/
def crcStr (bs : List Byte) : List Event := issue .crcInit :: bs.map (fun b => issue (.crcByte b))

/-- `SETNAME "s"` (R111): at most 64 bytes, then NAMELEN. -/
def setName (bs : List Byte) : List Event :=
  writeBytes nameBase (bs.take nameMax) ++ [.hostWrite 0x004#32 (BitVec.ofNat 32 (min bs.length nameMax))]

/-- `SETPAY [b0, ...]` (R111): the bytes, then LEN. DESIGN CHOICE (log 22): with more than 0xFFFF0000 bytes the addresses wrap modulo 2^32, and from 2^32 bytes on (not representable, D12) the length does too. -/
def setPay (bs : List Byte) : List Event :=
  writeBytes payloadBase bs ++ [.hostWrite 0x003#32 (BitVec.ofNat 32 bs.length)]

/-- `SEND "s", [bytes]` (R111); a list too long for the address space as in `setPay` (log 22). -/
def send (name bytes : List Byte) : List Event := setName name ++ setPay bytes ++ [issue .start]

/-- `PEER b0, b1, ...` (R110). -/
def peerLine (bs : List Byte) : List Event := bs.map Event.peer

/-- `TICK n` (R110). -/
def tickLine (n : Nat) : List Event := List.replicate n .tick

/-- `WAIT_DONE` (R111), a host loop, unrolled to `n` reads of STATUS. -/
def waitDone (n : Nat) : List Event := List.replicate n (.hostRead 0x001#32)

end Sys2Proof.Machine
end

