-- ==== Sys2Proof/Safety.lean ====
section
/-! DEFINITION. The terms claims use: the invariant of the machine (10_state.md R21 to R51, 42_sender.md R207, R208, R217), a run of one session, the transcript of its channel transactions (R217), and the reference forms the claims compare the model with (40_checksum.md R120, R121). -/

namespace Sys2Proof.Machine

open Sys2Proof.Config

/-! ## The invariant -/

/-- The OUTCOME that goes with a STATE (R23). -/
def outcomeOf : SessionState → SessionOutcome
  | .idle => .none
  | .awaitInitialReady => .pending
  | .sendHeader => .pending
  | .awaitHdrAck => .pending
  | .awaitHdrC => .pending
  | .sendData => .pending
  | .awaitDataAck => .pending
  | .sendEot => .pending
  | .awaitEotAck => .pending
  | .awaitFinalC => .pending
  | .sendFinalHeader => .pending
  | .awaitFinalAck => .pending
  | .failCancel => .failed
  | .failed => .failed
  | .succeeded => .succeeded

/-- States before the first data block: BLKIDX is still the 1 of START. -/
def beforeData (st : SessionState) : Prop :=
  st = .awaitInitialReady ∨ st = .sendHeader ∨ st = .awaitHdrAck ∨ st = .awaitHdrC

/-- The two states of a data block (R47). -/
def inData (st : SessionState) : Prop := st = .sendData ∨ st = .awaitDataAck

/-- States after the last data block. -/
def afterData (st : SessionState) : Prop :=
  st = .sendEot ∨ st = .awaitEotAck ∨ st = .awaitFinalC ∨ st = .sendFinalHeader ∨ st = .awaitFinalAck
    ∨ st = .succeeded

/-- The wait the engine is in has not run out: ELAPSED is below its timeout (R37, R212). -/
def waitRunning (s : State) : Prop :=
  match roleOf s.state with
  | .rest => True
  | .send => True
  | .wait _ cls => s.elapsed.toNat < cls.ticks s.params

/-- The reserved bits [7:5] of CHKRES read 0, and VALID is MARKER_OK AND COMPL_OK AND CRC_OK (R31). -/
def chkResOk (w : Word) : Prop :=
  w.extractLsb' 5 3 = 0#3 ∧ w.getLsbD 0 = (w.getLsbD 1 && w.getLsbD 2 && w.getLsbD 3)

/-- What every step keeps. It rules out the combinations of registers no run reaches. -/
structure Inv (s : State) : Prop where
  /-- The parameters are legal (R5, R6). -/
  params_wf : s.params.wf = true
  /-- Memory is in its canonical form. -/
  mem_wf : Memory.wf s.mem = true
  /-- Only buffer addresses hold bytes (R61). -/
  mem_mapped : ∀ c ∈ s.mem, isBuffer s.params c.1 = true
  /-- OUTCOME goes with STATE; CANCELLED never occurs (R23, R251). -/
  outcome_of_state : s.outcome = outcomeOf s.state
  /-- REASON is nonzero exactly when OUTCOME = FAILED (R24). -/
  reason_iff_failed : s.reason ≠ .none ↔ s.outcome = .failed
  /-- SEQ = BLKIDX mod 256 (R47). -/
  seq_wraps : s.seq.toNat = s.blkIdx.toNat % 256
  /-- BLKIDX never exceeds max(1, TOTBLK) (R32). -/
  blkIdx_bound : s.blkIdx.toNat ≤ max 1 s.totBlk.toNat
  /-- TOTBLK <= 0x01FFFE00 (R35). -/
  totBlk_bound : s.totBlk.toNat ≤ 0x01FFFE00
  /-- In IDLE every session register is 0 (R32 to R38). -/
  idle_zero : s.state = .idle →
    s.blkIdx = 0#32 ∧ s.seq = 0#8 ∧ s.acked = 0#32 ∧ s.totBlk = 0#32 ∧ s.failBlk = 0#32 ∧ s.elapsed = 0#32
      ∧ s.progCnt = 0#32
  /-- While busy LEN fits the payload memory and TOTBLK is its block count (R35, R51, R171). -/
  inputs_locked : s.busy = true →
    s.len ≤ s.params.payloadMax ∧ s.totBlk.toNat = totalBlocks s.len.toNat
  /-- Before the first data block BLKIDX = 1 (R171). -/
  before_data : beforeData s.state → s.blkIdx = 1#32 ∧ s.progCnt = 0#32
  /-- 1 <= BLKIDX <= TOTBLK during the data blocks (R47), and BLKIDX - 1 of them are acknowledged (R207). -/
  in_data : inData s.state →
    1 ≤ s.blkIdx.toNat ∧ s.blkIdx.toNat ≤ s.totBlk.toNat ∧ s.progCnt.toNat + 1 = s.blkIdx.toNat
  /-- After the last data block all are acknowledged (R208). -/
  after_data : afterData s.state →
    s.progCnt = s.totBlk ∧ s.blkIdx.toNat = max 1 s.totBlk.toNat
  /-- ACKED counts the acknowledged blocks' bytes (R34, R207). -/
  acked_count : s.busy = true → s.acked.toNat = min (s.progCnt.toNat * blockSize) s.len.toNat
  /-- FAILBLK is BLKIDX, the first block not acknowledged, after BLOCK_NOT_ACKED, and 0 otherwise (R36, R208). -/
  fail_block : if s.reason = .blockNotAcked then s.failBlk = s.blkIdx ∧ s.progCnt.toNat + 1 = s.failBlk.toNat
    else s.failBlk = 0#32
  /-- NO_CRC_REQUEST is raised before anything is acknowledged (R242). -/
  no_request : s.reason = .noCrcRequest → s.blkIdx = 1#32 ∧ s.seq = 1#8 ∧ s.acked = 0#32
  /-- ELAPSED never exceeds the longer timeout (R37). -/
  elapsed_bound : s.elapsed.toNat ≤ max s.params.tInitMs s.params.tAckMs
  /-- A wait that has reached its timeout has ended (R212). -/
  wait_running : waitRunning s
  /-- CHKRES has the form R31 gives it. -/
  chkRes_form : chkResOk s.chkRes
  /-- In FAILED the last channel transaction is the cancel pair's write (R217). -/
  cancel_last : s.state = .failed → ∃ ok, s.wire.getLast? = some (.wrote cancelPair ok)

/-! ## Runs of one session -/

/-- `u` is reached from `s` by steps all of which start in a busy state: a stretch of one session. -/
inductive ActiveRun : State → State → Prop where
  | here (s : State) : ActiveRun s s
  | more (s t u : State) : ActiveRun s t → t.busy = true → step t = .next u → ActiveRun s u

/-- `u` is reached from `s` by any steps. -/
inductive Run : State → State → Prop where
  | here (s : State) : Run s s
  | more (s t u : State) : Run s t → step t = .next u → Run s u

/-- 1 if the next step is a tick that a wait state counts (R180, R212). -/
def waitTick (s : State) : Nat :=
  match roleOf s.state, s.script.head? with
  | .wait _ _, some .tick => 1
  | _, _ => 0

/-- `u` is reached from `s` by steps all of which start in a busy state, with `n` ticks counted in wait states. -/
inductive CountedRun : Nat → State → State → Prop where
  | here (s : State) : CountedRun 0 s s
  | more (n : Nat) (s t u : State) :
    CountedRun n s t → t.busy = true → step t = .next u → CountedRun (n + waitTick t) s u

/-- `n` steps, stopping at the first fault or refusal. -/
def stepMany : Nat → State → Host.Outcome State Fault Refusal
  | 0, s => .next s
  | n + 1, s =>
    match step s with
    | .next t => stepMany n t
    | .fault r => .fault r
    | .refused r => .refused r

/-! ## The transcript of a session (R217) -/

/-- A `ChWrite`. -/
def ChTxn.isWrite : ChTxn → Bool
  | .wrote _ _ => true
  | .got _ => false
  | .readErr => false

/-- A `ChRead` that gave a byte. -/
def ChTxn.isByteRead : ChTxn → Bool
  | .wrote _ _ => false
  | .got _ => true
  | .readErr => false

/-- The record of a successful write of a computed sequence. -/
def sentTxn (e : Except Nat (List Byte)) : ChTxn :=
  match e with
  | .ok bs => .wrote bs true
  | .error _ => .wrote [] true

/-- Data block n: its frame is written, its ACK is read (R185, R186, R200). -/
def blockTxns (s : State) (n : Nat) : List ChTxn :=
  [sentTxn (dataFrame s (BitVec.ofNat 8 (n % 256)) n), .got ackByte]

/-- Data blocks 1 to k. -/
def blocksTxns (s : State) (k : Nat) : List ChTxn := (List.range k).flatMap (fun j => blockTxns s (j + 1))

/-- Up to the request for data (R181 to R184). -/
def openingTxns (s : State) : List ChTxn := [.got crcReq, sentTxn (headerFrame s), .got ackByte, .got crcReq]

/-- From EOT to the last ACK (R187 to R191). -/
def closingTxns : List ChTxn := [.wrote [eotByte] true, .got ackByte, .got crcReq, .wrote endFrame true, .got ackByte]

/-- The whole transcript of a session that reaches SUCCEEDED (R217). -/
def sessionTxns (s : State) : List ChTxn := openingTxns s ++ blocksTxns s s.totBlk.toNat ++ closingTxns

/-- What a session that has met no failure has exchanged so far, as a function of its position (STATE, BLKIDX) (R46). -/
def txnsSoFar (s : State) : List ChTxn :=
  match s.state with
  | .idle => []
  | .awaitInitialReady => []
  | .sendHeader => (openingTxns s).take 1
  | .awaitHdrAck => (openingTxns s).take 2
  | .awaitHdrC => (openingTxns s).take 3
  | .sendData => openingTxns s ++ blocksTxns s (s.blkIdx.toNat - 1)
  | .awaitDataAck =>
    openingTxns s ++ blocksTxns s (s.blkIdx.toNat - 1) ++ (blockTxns s s.blkIdx.toNat).take 1
  | .sendEot => openingTxns s ++ blocksTxns s s.totBlk.toNat
  | .awaitEotAck => openingTxns s ++ blocksTxns s s.totBlk.toNat ++ closingTxns.take 1
  | .awaitFinalC => openingTxns s ++ blocksTxns s s.totBlk.toNat ++ closingTxns.take 2
  | .sendFinalHeader => openingTxns s ++ blocksTxns s s.totBlk.toNat ++ closingTxns.take 3
  | .awaitFinalAck => openingTxns s ++ blocksTxns s s.totBlk.toNat ++ closingTxns.take 4
  | .failCancel => []
  | .failed => []
  | .succeeded => sessionTxns s

/-! ## What a command raises, and command words -/

/-- The command error a command raises in a state: the first that applies in the order BUSY, LEN_RANGE, ARG_RANGE (R236; ILLEGAL is decided before there is a command). -/
def errorOf (s : State) : Instr → CmdError
  | .nop => .none
  | .crcInit => .none
  | .crcByte _ => .none
  | .frameHdr => if s.busy then .busy else .none
  | .frameData =>
    if s.busy then .busy else if s.params.payloadMax < s.len then .lenRange
    else if s.fbIdx = 0#32 then .argRange else .none
  | .frameEnd => if s.busy then .busy else .none
  | .frameCheck => if s.busy then .busy else .none
  | .start => if s.busy then .busy else if s.params.payloadMax < s.len then .lenRange else .none
  | .clear => if s.busy then .busy else .none

/-- The words R93 calls illegal, by their bits. -/
def illegalWord (w : Word) : Prop :=
  w.extractLsb' 16 16 ≠ 0#16 ∨
    w.extractLsb' 0 8 ∉ [0x00#8, 0x01#8, 0x02#8, 0x08#8, 0x09#8, 0x0A#8, 0x0B#8, 0x10#8, 0x11#8] ∨
    (w.extractLsb' 0 8 ≠ 0x02#8 ∧ w.extractLsb' 8 8 ≠ 0x00#8)

/-- `bs` is what memory holds from address `a` on. -/
def Memory.holds (m : Memory) (a : Nat) (bs : List Byte) : Prop :=
  ∀ i, i < bs.length → Memory.read m (a + i) = bs[i]?

/-- Some of the `n` bytes from address `a` on holds no value. -/
def Memory.lacks (m : Memory) (a n : Nat) : Prop := ∃ i, i < n ∧ Memory.read m (a + i) = none

/-- Memory `m'` is `m` with exactly the bytes `bs` stored from address `a` on. -/
def Memory.stored (m m' : Memory) (a : Nat) (bs : List Byte) : Prop :=
  Memory.holds m' a bs ∧ ∀ b, (b < a ∨ a + bs.length ≤ b) → Memory.read m' b = Memory.read m b

/-- One command after another. -/
def execAll (s : State) : List Instr → Host.Outcome State Fault Refusal
  | [] => .next s
  | i :: is =>
    match exec i s with
    | .next t => execAll t is
    | .fault r => .fault r
    | .refused r => .refused r

/-! ## Reference forms -/

/-- One round of R120's pseudocode on naturals, with the mask in the round. -/
def roundMasked (a : Nat) : Nat :=
  if a &&& 0x8000 ≠ 0 then ((a <<< 1) ^^^ 0x1021) &&& 0xFFFF else (a <<< 1) &&& 0xFFFF

/-- One round on naturals with no mask, the source's wording (R121). -/
def roundUnmasked (a : Nat) : Nat := if a &&& 0x8000 ≠ 0 then (a <<< 1) ^^^ 0x1021 else a <<< 1

/-- R120's `crc_update` on naturals, a mask in every round. -/
def crcUpdateMasked (acc b : Nat) : Nat := roundMasked^[8] (acc ^^^ (b <<< 8))

/-- The source's `crc_update` on naturals, one mask after the 8 rounds (R121). -/
def crcUpdateMaskedOnce (acc b : Nat) : Nat := (roundUnmasked^[8] (acc ^^^ (b <<< 8))) &&& 0xFFFF

/-- The natural number that decimal digit bytes spell, most significant first. -/
def decimalValue (ds : List Byte) : Nat := ds.foldl (fun v d => v * 10 + (d.toNat - 0x30)) 0

/-- The byte sequences' XOR, place by place (R122). -/
def xorBytes (s t : List Byte) : List Byte := List.zipWith (· ^^^ ·) s t

/-- `f` with bit `j` of byte `i` changed. -/
def flipBit (f : List Byte) (i j : Nat) : List Byte := f.modify i (· ^^^ (1#8 <<< j))

end Sys2Proof.Machine
end

