-- ==== Sys2Proof/Certificates/Slice0/Obligations.lean ====
section
/-! DEFINITION. The statements for the provers. Each docstring names the rule of spec/ it formalises. -/

open Sys2Proof Sys2Proof.Machine Sys2Proof.Config

/-! ## Encoding -/

/-- R91, R92: a word decodes to a command exactly if it is that command's encoding, so every command has one word and every legal word one meaning. -/
def Obligations.DecodeInvertsEncode : Prop :=
  ∀ (w : Word) (i : Instr), decode w = .ok i ↔ encode i = w

/-- R92: decoding agrees with the (match, mask) pairs of the opcode table, the rows do not overlap, and a word that selects no row is illegal. -/
def Obligations.DecodeAgreesWithOpcodeTable : Prop :=
  (∀ (w : Word) (i : Instr), decode w = .ok i → ∃ r ∈ opcodeTable, r.selects w = true ∧ r.mnemonic = i.mnemonic) ∧
  (∀ (w : Word) (r : OpcodeRow), r ∈ opcodeTable → r.selects w = true → ∃ i, decode w = .ok i ∧ i.mnemonic = r.mnemonic) ∧
  (∀ (w : Word) (r r' : OpcodeRow), r ∈ opcodeTable → r' ∈ opcodeTable → r.selects w = true → r'.selects w = true → r = r') ∧
  (∀ (w : Word), (∀ r ∈ opcodeTable, r.selects w = false) → ∃ e, decode w = .error e)

/-- Sanity: words written out from the encodings of R91 decode to their commands. -/
def Obligations.SampleWordsDecode : Prop :=
  decode 0x00000000#32 = .ok .nop ∧ decode 0x00000001#32 = .ok .crcInit ∧
  decode 0x0000A502#32 = .ok (.crcByte 0xA5#8) ∧ decode 0x00000008#32 = .ok .frameHdr ∧
  decode 0x00000009#32 = .ok .frameData ∧ decode 0x0000000A#32 = .ok .frameEnd ∧
  decode 0x0000000B#32 = .ok .frameCheck ∧ decode 0x00000010#32 = .ok .start ∧
  decode 0x00000011#32 = .ok .clear ∧ decode 0x00000003#32 = .error .unknownOp ∧
  decode 0x00000100#32 = .error .unexpectedArg ∧ decode 0x00010002#32 = .error .reservedBits

/-- R44, R92: when the next step is the host's write to CMD of a word that decodes to i, the step is exec of i on the state with that step taken from the script. -/
def Obligations.StepRunsDecodedCommand : Prop :=
  ∀ (s : State) (w : Word) (i : Instr) (rest : List Event),
    s.script = .hostWrite 0#32 w :: rest → decode w = .ok i → step s = exec i { s with script := rest }

/-- R93, R232: an illegal word records ILLEGAL, in any state, and does nothing else; every other word is one of the nine commands. -/
def Obligations.IllegalWordOnlyRecordsError : Prop :=
  (∀ (s : State) (w : Word), illegalWord w →
    hostWrite 0#32 w s = .next (if s.err = .none then { s with err := .illegal } else s)) ∧
  (∀ w : Word, ¬ illegalWord w → ∃ i, decode w = .ok i)

/-! ## The checksum -/

/-- R120, R121: the 16-bit update is R120's pseudocode on naturals, and masking once after the 8 rounds gives the same; crc16 folds it from 0, and crc16("123456789") = 0x31C3. -/
def Obligations.CrcUpdateIsTheReferenceAlgorithm : Prop :=
  (∀ (acc : Half) (b : Byte),
    (crcUpdate acc b).toNat = crcUpdateMasked acc.toNat b.toNat ∧
    crcUpdateMaskedOnce acc.toNat b.toNat = crcUpdateMasked acc.toNat b.toNat) ∧
  crc16 [] = 0x0000#16 ∧
  (∀ (bs : List Byte) (b : Byte), crc16 (bs ++ [b]) = crcUpdate (crc16 bs) b) ∧
  crc16 [0x31#8, 0x32#8, 0x33#8, 0x34#8, 0x35#8, 0x36#8, 0x37#8, 0x38#8, 0x39#8] = 0x31C3#16

/-- R122: the corner cases of crc16, and its linearity over XOR for equal-length inputs. -/
def Obligations.CrcIsLinear : Prop :=
  crc16 [] = 0x0000#16 ∧ (∀ n, crc16 (List.replicate n 0x00#8) = 0x0000#16) ∧
  (∀ b, crcUpdate 0x0000#16 b = crc16 [b]) ∧
  crcUpdate 0x0000#16 0x01#8 = 0x1021#16 ∧ crcUpdate 0x0000#16 0x80#8 = 0x9188#16 ∧
  crcUpdate 0x0000#16 0xFF#8 = 0x1EF0#16 ∧
  (∀ s t : List Byte, s.length = t.length → crc16 (xorBytes s t) = crc16 s ^^^ crc16 t)

/-- R123: CRC_INIT sets ACC to 0 and nothing else, busy or not; an ill-formed CRC_INIT word leaves ACC. -/
def Obligations.CrcInitClearsAcc : Prop :=
  encode .crcInit = 0x00000001#32 ∧
  (∀ s : State, exec .crcInit s = .next { s with acc := 0x0000#16 }) ∧
  (∀ (s : State) (w : Word), w.extractLsb' 0 8 = 0x01#8 → w ≠ 0x00000001#32 →
    hostWrite 0#32 w s = .next (raiseCmdError .illegal s) ∧ (raiseCmdError .illegal s).acc = s.acc)

/-- R124: CRC_BYTE b feeds its byte, busy or not, and changes nothing else; an ill-formed word leaves ACC; after CRC_INIT and CRC_BYTE of each byte of a sequence ACC is its crc16. -/
def Obligations.CrcByteFeedsAcc : Prop :=
  (∀ b : Byte, encode (.crcByte b) = 0x0000#16 ++ b ++ 0x02#8) ∧
  (∀ (s : State) (b : Byte), exec (.crcByte b) s = .next { s with acc := crcUpdate s.acc b }) ∧
  (∀ (s : State) (w : Word), w.extractLsb' 0 8 = 0x02#8 → w.extractLsb' 16 16 ≠ 0#16 →
    hostWrite 0#32 w s = .next (raiseCmdError .illegal s) ∧ (raiseCmdError .illegal s).acc = s.acc) ∧
  (∀ (s : State) (bs : List Byte),
    execAll s (.crcInit :: bs.map Instr.crcByte) = .next { s with acc := crc16 bs }) ∧
  crcUpdate 0x0000#16 0x31#8 = 0x2672#16

/-- R126: no step but the CRC commands, a read of CRC and a reset depends on ACC or changes it. -/
def Obligations.AccIsIndependent : Prop :=
  ∀ (s t : State) (e : Event) (rest : List Event) (x : Half), s.script = e :: rest →
    e ≠ .reset → e ≠ .powerOn → e ≠ .hostRead 0x002#32 → e ≠ .hostWrite 0#32 (encode .crcInit) →
    (∀ b, e ≠ .hostWrite 0#32 (encode (.crcByte b))) →
    step s = .next t → t.acc = s.acc ∧ step { s with acc := x } = .next { t with acc := x }

/-! ## Frames -/

/-- R140, R103: the 133 bytes of frame(num, p); the complement is the bitwise one; every payload the block frames has 128 bytes. -/
def Obligations.FrameLayout : Prop :=
  (∀ (num : Byte) (p : List Byte), p.length = 128 →
    (frame num p).length = 133 ∧ (frame num p)[0]? = some 0x01#8 ∧ (frame num p)[1]? = some num ∧
    (frame num p)[2]? = some (255#8 - num) ∧ 255#8 - num = num ^^^ 0xFF#8 ∧
    ((frame num p).drop 3).take 128 = p ∧
    (frame num p)[131]? = some ((crc16 p).extractLsb' 8 8) ∧ (frame num p)[132]? = some ((crc16 p).extractLsb' 0 8)) ∧
  (∀ (s : State) (p : List Byte), headerPayload s = .ok p → p.length = 128) ∧
  (∀ (s : State) (n : Nat) (p : List Byte), 1 ≤ n → dataPayload s n = .ok p → p.length = 128) ∧
  endPayload.length = 128

/-- R141: decimal(v) spells v, most significant digit first, with no leading zeros, in 1 to 10 ASCII digits; decimal(0) is "0". -/
def Obligations.DecimalSpellsNumber : Prop :=
  ∀ v : Word, decimalValue (decimal v) = v.toNat ∧ 1 ≤ (decimal v).length ∧ (decimal v).length ≤ 10 ∧
    (∀ d ∈ decimal v, 0x30#8 ≤ d ∧ d ≤ 0x39#8) ∧ (v ≠ 0#32 → (decimal v).head? ≠ some 0x30#8) ∧
    decimal 0#32 = [0x30#8]

/-- R145: totalBlocks is the ceiling of len / 128, with the rule's four values. -/
def Obligations.TotalBlocksIsCeiling : Prop :=
  (∀ n, n ≤ totalBlocks n * 128 ∧ totalBlocks n * 128 < n + 128) ∧
  totalBlocks 0 = 0 ∧ totalBlocks 1 = 1 ∧ totalBlocks 128 = 1 ∧ totalBlocks 129 = 2

/-- R146, R142: FRAME_HDR stores frame(0, headerPayload()) into FRAME and changes nothing else; BUSY and ill-formed words. A NAME byte that holds no value: R43 asks for a fault, and that the fault names such a byte's address is the model's choice (log 7). -/
def Obligations.FrameHdrBuildsHeader : Prop :=
  encode .frameHdr = 0x00000008#32 ∧
  (∀ (s : State),
    (s.busy = true → exec .frameHdr s = .next (raiseCmdError .busy s)) ∧
    (∀ name : List Byte, s.busy = false → name.length = min s.nameLen.toNat 64 → s.mem.holds 0x100 name →
      ∃ t, exec .frameHdr s = .next t ∧ t = { s with mem := t.mem } ∧
        s.mem.stored t.mem 0x200
          (frame 0x00#8 (name ++ [0x00#8] ++ decimal s.len ++
            List.replicate (128 - (name.length + 1 + (decimal s.len).length)) 0x00#8))) ∧
    (s.busy = false → s.mem.lacks 0x100 (min s.nameLen.toNat 64) →
      ∃ a, exec .frameHdr s = .fault (.unwrittenByte a) ∧ s.mem.read a = none)) ∧
  (∀ (s : State) (w : Word), w.extractLsb' 0 8 = 0x08#8 → w ≠ 0x00000008#32 →
    hostWrite 0#32 w s = .next (raiseCmdError .illegal s) ∧ (raiseCmdError .illegal s).mem = s.mem)

/-- R147, R143: FRAME_DATA stores data frame FBIDX into FRAME and changes nothing else; BUSY, LEN_RANGE, ARG_RANGE in that priority. A PAYLOAD byte that holds no value: R43 asks for a fault, and that the fault names such a byte's address is the model's choice (log 7). -/
def Obligations.FrameDataBuildsBlock : Prop :=
  encode .frameData = 0x00000009#32 ∧
  (∀ (s : State),
    (s.busy = true → exec .frameData s = .next (raiseCmdError .busy s)) ∧
    (s.busy = false → s.params.payloadMax < s.len → exec .frameData s = .next (raiseCmdError .lenRange s)) ∧
    (s.busy = false → s.len ≤ s.params.payloadMax → s.fbIdx = 0#32 →
      exec .frameData s = .next (raiseCmdError .argRange s)) ∧
    (∀ bytes : List Byte, s.busy = false → s.len ≤ s.params.payloadMax → s.fbIdx ≠ 0#32 →
      bytes.length = min (s.fbIdx.toNat * 128) s.len.toNat - (s.fbIdx.toNat - 1) * 128 →
      s.mem.holds (0x10000 + (s.fbIdx.toNat - 1) * 128) bytes →
      ∃ t, exec .frameData s = .next t ∧ t = { s with mem := t.mem } ∧
        s.mem.stored t.mem 0x200
          (frame (BitVec.ofNat 8 (s.fbIdx.toNat % 256)) (bytes ++ List.replicate (128 - bytes.length) 0x1A#8))) ∧
    (s.busy = false → s.len ≤ s.params.payloadMax → s.fbIdx ≠ 0#32 →
      s.mem.lacks (0x10000 + (s.fbIdx.toNat - 1) * 128)
        (min (s.fbIdx.toNat * 128) s.len.toNat - (s.fbIdx.toNat - 1) * 128) →
      ∃ a, exec .frameData s = .fault (.unwrittenByte a) ∧ s.mem.read a = none)) ∧
  (∀ (s : State) (w : Word), w.extractLsb' 0 8 = 0x09#8 → w ≠ 0x00000009#32 →
    hostWrite 0#32 w s = .next (raiseCmdError .illegal s) ∧ (raiseCmdError .illegal s).mem = s.mem)

/-- R148, R144: FRAME_END stores the fixed end-of-batch frame into FRAME and changes nothing else. -/
def Obligations.FrameEndBuildsEndFrame : Prop :=
  encode .frameEnd = 0x0000000A#32 ∧
  (∀ (s : State),
    (s.busy = true → exec .frameEnd s = .next (raiseCmdError .busy s)) ∧
    (s.busy = false → ∃ t, exec .frameEnd s = .next t ∧ t = { s with mem := t.mem } ∧
      s.mem.stored t.mem 0x200
        ([0x01#8, 0x00#8, 0xFF#8] ++ List.replicate 128 0x00#8 ++ [0x00#8, 0x00#8]))) ∧
  (∀ (s : State) (w : Word), w.extractLsb' 0 8 = 0x0A#8 → w ≠ 0x0000000A#32 →
    hostWrite 0#32 w s = .next (raiseCmdError .illegal s) ∧ (raiseCmdError .illegal s).mem = s.mem)

/-- R149, R31: FRAME_CHECK writes CHKRES, whose fields are the rule's, and changes nothing else; VALID does not include SEQ_OK. A FRAME byte that holds no value: R43 asks for a fault, and that the fault names such a byte's address is the model's choice (log 7). -/
def Obligations.FrameCheckValidates : Prop :=
  encode .frameCheck = 0x0000000B#32 ∧
  (∀ (s : State),
    (s.busy = true → exec .frameCheck s = .next (raiseCmdError .busy s)) ∧
    (∀ f : List Byte, s.busy = false → f.length = 133 → s.mem.holds 0x200 f →
      ∃ t, exec .frameCheck s = .next t ∧ t = { s with chkRes := t.chkRes } ∧
        t.chkRes.extractLsb' 16 16 = crc16 ((f.drop 3).take 128) ∧
        some (t.chkRes.extractLsb' 8 8) = f[1]? ∧
        t.chkRes.extractLsb' 5 3 = 0#3 ∧
        t.chkRes.getLsbD 4 = decide ((f.getD 1 0#8).toNat = s.fbIdx.toNat % 256) ∧
        t.chkRes.getLsbD 3 =
          decide ((f.getD 131 0#8).toNat * 256 + (f.getD 132 0#8).toNat = (crc16 ((f.drop 3).take 128)).toNat) ∧
        t.chkRes.getLsbD 2 = decide ((f.getD 2 0#8).toNat = 255 - (f.getD 1 0#8).toNat) ∧
        t.chkRes.getLsbD 1 = decide (f.getD 0 0#8 = 0x01#8) ∧
        t.chkRes.getLsbD 0 = (t.chkRes.getLsbD 1 && t.chkRes.getLsbD 2 && t.chkRes.getLsbD 3)) ∧
    (s.busy = false → s.mem.lacks 0x200 133 →
      ∃ a, exec .frameCheck s = .fault (.unwrittenByte a) ∧ s.mem.read a = none)) ∧
  (∀ (s : State) (w : Word), w.extractLsb' 0 8 = 0x0B#8 → w ≠ 0x0000000B#32 →
    hostWrite 0#32 w s = .next (raiseCmdError .illegal s) ∧ (raiseCmdError .illegal s).chkRes = s.chkRes)

/-- R150, first sentence: FRAME_CHECK of a frame that `frame` built gives MARKER_OK, COMPL_OK, CRC_OK, VALID and CRC_CALC = crc16(p). -/
def Obligations.BuiltFrameIsValid : Prop :=
  ∀ (s : State) (num : Byte) (p : List Byte), s.busy = false → p.length = 128 → s.mem.holds 0x200 (frame num p) →
    ∃ t, exec .frameCheck s = .next t ∧ t.chkRes.extractLsb' 0 4 = 0xF#4 ∧
      t.chkRes.extractLsb' 8 8 = num ∧ t.chkRes.extractLsb' 16 16 = crc16 p

/-- R150, second sentence (which the spec marks as general knowledge, G1): any one-bit change of bytes 3 to 132 of a built frame makes CRC_OK and VALID 0. -/
def Obligations.SingleBitErrorIsDetected : Prop :=
  ∀ (num : Byte) (p : List Byte) (fb : Word) (i j : Nat), p.length = 128 → 3 ≤ i → i ≤ 132 → j < 8 →
    (checkFrame (flipBit (frame num p) i j) fb).getLsbD 3 = false ∧
    (checkFrame (flipBit (frame num p) i j) fb).getLsbD 0 = false

/-- R151: the data blocks' payloads, concatenated and cut to the length, give the buffer back, and each block's frame carries its payload's CRC. -/
def Obligations.BlocksReassembleBuffer : Prop :=
  ∀ (s : State) (buf : List Byte), 1 ≤ buf.length → buf.length = s.len.toNat → s.mem.holds 0x10000 buf →
    ∃ ps : List (List Byte), ps.length = totalBlocks buf.length ∧
      (∀ k p, ps[k]? = some p → dataPayload s (k + 1) = .ok p ∧
        ∀ num, dataFrame s num (k + 1) = .ok (frame num p) ∧ ((frame num p).drop 131) =
          [(crc16 p).extractLsb' 8 8, (crc16 p).extractLsb' 0 8]) ∧
      ps.flatten.take buf.length = buf

/-! ## Control commands -/

/-- R170: NOP changes nothing, busy or not; any other word with OP 0 is illegal. -/
def Obligations.NopChangesNothing : Prop :=
  encode .nop = 0x00000000#32 ∧ (∀ s : State, exec .nop s = .next s) ∧
  (∀ (s : State) (w : Word), w.extractLsb' 0 8 = 0x00#8 → w ≠ 0#32 →
    hostWrite 0#32 w s = .next (raiseCmdError .illegal s))

/-- R171: START writes the session registers as the rule says and nothing else, from IDLE, FAILED and SUCCEEDED alike; BUSY and LEN_RANGE in that priority; ill-formed words. -/
def Obligations.StartBeginsSession : Prop :=
  encode .start = 0x00000010#32 ∧
  (∀ s : State,
    (s.busy = true → exec .start s = .next (raiseCmdError .busy s)) ∧
    (s.busy = false → s.params.payloadMax < s.len → exec .start s = .next (raiseCmdError .lenRange s)) ∧
    (s.busy = false → s.len ≤ s.params.payloadMax →
      exec .start s = .next { s with
        totBlk := BitVec.ofNat 32 ((s.len.toNat + 127) / 128), blkIdx := 1#32, seq := 1#8,
        acked := 0#32, progCnt := 0#32, failBlk := 0#32, elapsed := 0#32,
        reason := .none, outcome := .pending, state := .awaitInitialReady })) ∧
  (∀ s : State, s.busy = false ↔ s.state = .idle ∨ s.state = .failed ∨ s.state = .succeeded) ∧
  (∀ (s : State) (w : Word), w.extractLsb' 0 8 = 0x10#8 → w ≠ 0x00000010#32 →
    hostWrite 0#32 w s = .next (raiseCmdError .illegal s))

/-- R172: CLEAR puts STATUS and the session registers to 0 and keeps everything else; a CLEAR while busy raises BUSY and does not stop the session. -/
def Obligations.ClearReturnsToIdle : Prop :=
  encode .clear = 0x00000011#32 ∧
  (∀ s : State,
    (s.busy = true → exec .clear s = .next (raiseCmdError .busy s)) ∧
    (s.busy = false → exec .clear s = .next { s with
        state := .idle, outcome := .none, reason := .none, err := .none,
        blkIdx := 0#32, seq := 0#8, acked := 0#32, totBlk := 0#32, failBlk := 0#32, elapsed := 0#32,
        progCnt := 0#32 })) ∧
  (∀ s t : State, s.busy = false → exec .clear s = .next t → readReg t .status = 0x00000000#32) ∧
  (∀ (s : State) (w : Word), w.extractLsb' 0 8 = 0x11#8 → w ≠ 0x00000011#32 →
    hostWrite 0#32 w s = .next (raiseCmdError .illegal s))

/-! ## Command errors -/

/-- R230, R236 (with R232 to R235): an illegal word or a command raises at most one error, the first that applies, keeps the first recorded one, and has no other effect; a command to which none applies leaves ERR to its own rule. -/
def Obligations.CommandErrorsInPriority : Prop :=
  (∀ (s : State) (i : Instr), errorOf s i ≠ .none →
    exec i s = .next (if s.err = .none then { s with err := errorOf s i } else s)) ∧
  (∀ (s t : State) (i : Instr), errorOf s i = .none → exec i s = .next t → i ≠ .clear → t.err = s.err) ∧
  (∀ (s : State) (w : Word), illegalWord w →
    hostWrite 0#32 w s = .next (if s.err = .none then { s with err := .illegal } else s))

/-- R233, R66: the busy lockout, and what is accepted while busy. -/
def Obligations.BusyLockout : Prop :=
  ∀ s : State, s.busy = true →
    (∀ i ∈ [Instr.start, .clear, .frameHdr, .frameData, .frameEnd, .frameCheck],
      exec i s = .next (raiseCmdError .busy s)) ∧
    (∀ a w : Word, (a = 0x003#32 ∨ a = 0x004#32 ∨ a = 0x005#32 ∨ isBuffer s.params a.toNat = true) →
      hostWrite a w s = .next (raiseCmdError .busy s)) ∧
    (∀ a w : Word, a ≠ 0x000#32 → a ≠ 0x003#32 → a ≠ 0x004#32 → a ≠ 0x005#32 → isBuffer s.params a.toNat = false →
      hostWrite a w s = .next s) ∧
    (∀ a : Word, (hostRead a s).err = s.err) ∧
    exec .nop s = .next s ∧ (∃ t, exec .crcInit s = .next t ∧ t.err = s.err) ∧
    (∀ b, ∃ t, exec (.crcByte b) s = .next t ∧ t.err = s.err)

/-- R25: ERR is sticky: once nonzero a step changes it only to NONE, and only by a reset or an accepted CLEAR. -/
def Obligations.ErrChangesOnlyByClearOrReset : Prop :=
  ∀ (s t : State) (e : Event) (rest : List Event), s.script = e :: rest → s.err ≠ .none → step s = .next t →
    t.err ≠ s.err →
    t.err = .none ∧ (e = .reset ∨ e = .powerOn ∨ (e = .hostWrite 0#32 0x00000011#32 ∧ s.busy = false))

/-! ## The host bus -/

/-- R20, R62: what a host read of each register address returns. -/
def Obligations.HostReadReturnsRegister : Prop :=
  ∀ s : State,
    readWord 0x000 s = some 0#32 ∧ readWord 0x001 s = some (readReg s .status) ∧
    readWord 0x002 s = some (0x0000#16 ++ s.acc) ∧ readWord 0x003 s = some s.len ∧
    readWord 0x004 s = some (0x000000#24 ++ s.nameLen) ∧ readWord 0x005 s = some s.fbIdx ∧
    readWord 0x006 s = some s.chkRes ∧ readWord 0x007 s = some s.blkIdx ∧
    readWord 0x008 s = some (0x000000#24 ++ s.seq) ∧ readWord 0x009 s = some s.acked ∧
    readWord 0x00A s = some s.totBlk ∧ readWord 0x00B s = some s.failBlk ∧
    readWord 0x00C s = some s.elapsed ∧ readWord 0x00D s = some s.progCnt ∧
    readWord 0x00E s = some s.params.payloadMax ∧
    (∀ (a v : Word), readWord a.toNat s = some v → hostRead a s = { s with reads := s.reads ++ [v] })

/-- R21 to R26: the fields of the STATUS word with the numeric code of every STATE, OUTCOME, REASON and ERR (the tables of R21, R23, R24, R25), BUSY exactly in states 1 to 12, DONE exactly in FAILED and SUCCEEDED, and STATUS = 0 right after reset. -/
def Obligations.StatusWordFields : Prop :=
  (∀ s : State,
    ((readReg s .status).extractLsb' 0 4).setWidth 32 = s.state.code ∧
    ((readReg s .status).getLsbD 4 = true ↔ 1 ≤ s.state.code.toNat ∧ s.state.code.toNat ≤ 12) ∧
    ((readReg s .status).extractLsb' 5 3).setWidth 32 = s.outcome.code ∧
    ((readReg s .status).extractLsb' 8 4).setWidth 32 = s.reason.code ∧
    ((readReg s .status).extractLsb' 12 4).setWidth 32 = s.err.code ∧
    ((readReg s .status).getLsbD 16 = true ↔ s.state = .failed ∨ s.state = .succeeded) ∧
    (readReg s .status).extractLsb' 17 15 = 0#15) ∧
  (SessionState.idle.code = 0#32 ∧ SessionState.awaitInitialReady.code = 1#32 ∧ SessionState.sendHeader.code = 2#32 ∧
    SessionState.awaitHdrAck.code = 3#32 ∧ SessionState.awaitHdrC.code = 4#32 ∧ SessionState.sendData.code = 5#32 ∧
    SessionState.awaitDataAck.code = 6#32 ∧ SessionState.sendEot.code = 7#32 ∧ SessionState.awaitEotAck.code = 8#32 ∧
    SessionState.awaitFinalC.code = 9#32 ∧ SessionState.sendFinalHeader.code = 10#32 ∧
    SessionState.awaitFinalAck.code = 11#32 ∧ SessionState.failCancel.code = 12#32 ∧ SessionState.failed.code = 13#32 ∧
    SessionState.succeeded.code = 14#32) ∧
  (SessionOutcome.none.code = 0#32 ∧ SessionOutcome.pending.code = 1#32 ∧ SessionOutcome.succeeded.code = 2#32 ∧
    SessionOutcome.failed.code = 3#32 ∧ SessionOutcome.cancelled.code = 4#32) ∧
  (FailReason.none.code = 0#32 ∧ FailReason.noCrcRequest.code = 1#32 ∧ FailReason.timeout.code = 2#32 ∧
    FailReason.blockNotAcked.code = 3#32 ∧ FailReason.channelClosed.code = 4#32) ∧
  (CmdError.none.code = 0#32 ∧ CmdError.illegal.code = 1#32 ∧ CmdError.busy.code = 2#32 ∧
    CmdError.lenRange.code = 3#32 ∧ CmdError.argRange.code = 4#32) ∧
  readReg State.reset .status = 0x00000000#32

/-- R67: a host read changes nothing of the block: only the record of read words and the free-value counter (the model's own, logs 8 and 9) move. -/
def Obligations.HostReadHasNoSideEffect : Prop :=
  ∀ (s t : State) (a : Word) (rest : List Event), s.script = .hostRead a :: rest → step s = .next t →
    ∃ v, t = { s with reads := s.reads ++ [v], draws := t.draws, script := rest } ∧
      (t.draws = s.draws ∨ (isBuffer s.params a.toNat = true ∧ s.mem.read a.toNat = none))

/-- R43: a host read of an unwritten buffer byte returns some byte, zero-extended (a free value, log 8), and the byte stays unwritten. -/
def Obligations.UnwrittenReadReturnsSomeByte : Prop :=
  ∀ (s : State) (a : Word), isBuffer s.params a.toNat = true → s.mem.read a.toNat = none →
    ∃ b : Byte, hostRead a s = { s with reads := s.reads ++ [0x000000#24 ++ b], draws := s.draws + 1 }

/-- R63, R61: a host read of a buffer address returns its byte zero-extended; a host write while not busy stores w[7:0] there and nothing else, and reads back; while busy it raises BUSY. -/
def Obligations.BufferWriteReadsBack : Prop :=
  ∀ (s : State) (a w : Word), isBuffer s.params a.toNat = true →
    (∀ b : Byte, s.mem.read a.toNat = some b → readWord a.toNat s = some (0x000000#24 ++ b)) ∧
    (s.busy = true → hostWrite a w s = .next (raiseCmdError .busy s)) ∧
    (s.busy = false → ∃ t, hostWrite a w s = .next t ∧ t = { s with mem := t.mem } ∧
      s.mem.stored t.mem a.toNat [w.extractLsb' 0 8] ∧
      readWord a.toNat t = some (0x000000#24 ++ w.extractLsb' 0 8))

/-- R62, R28 to R30: a host write to LEN, NAMELEN or FBIDX while not busy stores its writable bits and nothing else. -/
def Obligations.RegisterWriteStores : Prop :=
  ∀ (s : State) (w : Word), s.busy = false →
    hostWrite 0x003#32 w s = .next { s with len := w } ∧
    hostWrite 0x004#32 w s = .next { s with nameLen := w.extractLsb' 0 8 } ∧
    hostWrite 0x005#32 w s = .next { s with fbIdx := w }

/-- R64, R65: a write to a read-only register or an unmapped address has no effect; CMD and unmapped addresses read 0. -/
def Obligations.IgnoredAddresses : Prop :=
  ∀ (s : State) (a w : Word),
    (a ∈ [0x001#32, 0x002#32, 0x006#32, 0x007#32, 0x008#32, 0x009#32, 0x00A#32, 0x00B#32, 0x00C#32, 0x00D#32, 0x00E#32] →
      hostWrite a w s = .next s) ∧
    (0x00E < a.toNat → isBuffer s.params a.toNat = false →
      hostWrite a w s = .next s ∧ readWord a.toNat s = some 0#32) ∧
    readWord 0x000 s = some 0#32

/-! ## The session, state by state -/

/-- R181: AWAIT_INITIAL_READY: 'C' leads to SEND_HEADER; any other byte, or the T_INIT_MS-th tick, fails with NO_CRC_REQUEST. -/
def Obligations.InitialWait : Prop :=
  ∀ s : State, s.state = .awaitInitialReady →
    (∀ rest, s.chan = 0x43#8 :: rest → engineTurn .ok s =
      .next { s with chan := rest, wire := s.wire ++ [.got 0x43#8], state := .sendHeader }) ∧
    (∀ b rest, s.chan = b :: rest → b ≠ 0x43#8 → engineTurn .ok s =
      .next { s with chan := rest, wire := s.wire ++ [.got b],
                     reason := .noCrcRequest, outcome := .failed, state := .failCancel }) ∧
    (s.elapsed.toNat + 1 < 2 ^ 32 → s.elapsed.toNat + 1 ≥ s.params.tInitMs → tickTurn s =
      { s with elapsed := s.elapsed + 1#32, reason := .noCrcRequest, outcome := .failed, state := .failCancel })

/-- R183, R184, R188, R189, R191, R243: the five waits that fail with TIMEOUT: their matches, and their miss on a wrong byte or the T_ACK_MS-th tick. -/
def Obligations.OrdinaryWaits : Prop :=
  ∀ s : State,
    (s.state = .awaitHdrAck → ∀ rest, s.chan = 0x06#8 :: rest → engineTurn .ok s =
      .next { s with chan := rest, wire := s.wire ++ [.got 0x06#8], elapsed := 0#32, state := .awaitHdrC }) ∧
    (s.state = .awaitHdrC → ∀ rest, s.chan = 0x43#8 :: rest → engineTurn .ok s =
      .next { s with chan := rest, wire := s.wire ++ [.got 0x43#8],
                     state := if s.totBlk = 0#32 then .sendEot else .sendData }) ∧
    (s.state = .awaitEotAck → ∀ rest, s.chan = 0x06#8 :: rest → engineTurn .ok s =
      .next { s with chan := rest, wire := s.wire ++ [.got 0x06#8], elapsed := 0#32, state := .awaitFinalC }) ∧
    (s.state = .awaitFinalC → ∀ rest, s.chan = 0x43#8 :: rest → engineTurn .ok s =
      .next { s with chan := rest, wire := s.wire ++ [.got 0x43#8], state := .sendFinalHeader }) ∧
    (s.state = .awaitFinalAck → ∀ rest, s.chan = 0x06#8 :: rest → engineTurn .ok s =
      .next { s with chan := rest, wire := s.wire ++ [.got 0x06#8], outcome := .succeeded, state := .succeeded }) ∧
    (∀ b rest, s.chan = b :: rest →
      (s.state ∈ [SessionState.awaitHdrAck, .awaitEotAck, .awaitFinalAck] ∧ b ≠ 0x06#8) ∨
        (s.state ∈ [SessionState.awaitHdrC, .awaitFinalC] ∧ b ≠ 0x43#8) →
      engineTurn .ok s =
        .next { s with chan := rest, wire := s.wire ++ [.got b],
                       reason := .timeout, outcome := .failed, state := .failCancel }) ∧
    (s.state ∈ [SessionState.awaitHdrAck, .awaitHdrC, .awaitEotAck, .awaitFinalC, .awaitFinalAck] →
      s.elapsed.toNat + 1 < 2 ^ 32 → s.elapsed.toNat + 1 ≥ s.params.tAckMs → tickTurn s =
        { s with elapsed := s.elapsed + 1#32, reason := .timeout, outcome := .failed, state := .failCancel })

/-- R186, R206, R244: AWAIT_DATA_ACK: an ACK counts the block, emits one PROGRESS event and goes to the next block or to EOT; any other byte or the T_ACK_MS-th tick records FAILBLK and fails with BLOCK_NOT_ACKED. -/
def Obligations.DataAckWait : Prop :=
  ∀ s : State, s.state = .awaitDataAck →
    (∀ rest, s.chan = 0x06#8 :: rest →
      ∃ t, engineTurn .ok s = .next t ∧
        t = { s with chan := rest, wire := s.wire ++ [.got 0x06#8], acked := t.acked, progCnt := s.progCnt + 1#32,
                     progress := s.progress ++ [⟨0, nameReference s, s.len, t.acked⟩],
                     state := t.state, blkIdx := t.blkIdx, seq := t.seq } ∧
        t.acked.toNat = min (s.blkIdx.toNat * 128) s.len.toNat ∧
        (s.blkIdx = s.totBlk → t.state = .sendEot ∧ t.blkIdx = s.blkIdx ∧ t.seq = s.seq) ∧
        (s.blkIdx ≠ s.totBlk → t.state = .sendData ∧ t.blkIdx = s.blkIdx + 1#32 ∧
          t.seq.toNat = (s.seq.toNat + 1) % 256)) ∧
    (∀ b rest, s.chan = b :: rest → b ≠ 0x06#8 → engineTurn .ok s =
      .next { s with chan := rest, wire := s.wire ++ [.got b], failBlk := s.blkIdx,
                     reason := .blockNotAcked, outcome := .failed, state := .failCancel }) ∧
    (s.elapsed.toNat + 1 < 2 ^ 32 → s.elapsed.toNat + 1 ≥ s.params.tAckMs → tickTurn s =
      { s with elapsed := s.elapsed + 1#32, failBlk := s.blkIdx,
               reason := .blockNotAcked, outcome := .failed, state := .failCancel })

/-- R182, R185, R187, R190: what the four send states of a session write, and where an `OK` and an `Err` lead. -/
def Obligations.SendStates : Prop :=
  ∀ s : State,
    (∀ p, s.state = .sendHeader → headerPayload s = .ok p →
      engineTurn .ok s = .next { s with wire := s.wire ++ [.wrote (frame 0x00#8 p) true],
                                        elapsed := 0#32, state := .awaitHdrAck } ∧
      engineTurn .err s = .next { s with wire := s.wire ++ [.wrote (frame 0x00#8 p) false],
                                         reason := .channelClosed, outcome := .failed, state := .failCancel }) ∧
    (∀ p, s.state = .sendData → dataPayload s s.blkIdx.toNat = .ok p →
      engineTurn .ok s = .next { s with wire := s.wire ++ [.wrote (frame s.seq p) true],
                                        elapsed := 0#32, state := .awaitDataAck } ∧
      engineTurn .err s = .next { s with wire := s.wire ++ [.wrote (frame s.seq p) false],
                                         reason := .channelClosed, outcome := .failed, state := .failCancel }) ∧
    (s.state = .sendEot →
      engineTurn .ok s = .next { s with wire := s.wire ++ [.wrote [0x04#8] true],
                                        elapsed := 0#32, state := .awaitEotAck } ∧
      engineTurn .err s = .next { s with wire := s.wire ++ [.wrote [0x04#8] false],
                                         reason := .channelClosed, outcome := .failed, state := .failCancel }) ∧
    (s.state = .sendFinalHeader →
      engineTurn .ok s = .next { s with wire := s.wire ++ [.wrote (frame 0x00#8 (List.replicate 128 0x00#8)) true],
                                        elapsed := 0#32, state := .awaitFinalAck } ∧
      engineTurn .err s = .next { s with wire := s.wire ++ [.wrote (frame 0x00#8 (List.replicate 128 0x00#8)) false],
                                         reason := .channelClosed, outcome := .failed, state := .failCancel })

/-- R192: FAIL_CANCEL writes the cancel pair and goes to FAILED whatever the channel answers; REASON stays. -/
def Obligations.CancelPairErrorIsSwallowed : Prop :=
  ∀ s : State, s.state = .failCancel →
    engineTurn .ok s = .next { s with wire := s.wire ++ [.wrote [0x18#8, 0x18#8] true], state := .failed } ∧
    engineTurn .err s = .next { s with wire := s.wire ++ [.wrote [0x18#8, 0x18#8] false], state := .failed }

/-- R245: an `Err` in any state 1 to 11 fails with CHANNEL_CLOSED and does not write FAILBLK (in a send state with the sequence it was to write); in FAIL_CANCEL it raises nothing. -/
def Obligations.ChannelErrorFailsSession : Prop :=
  (∀ s : State, s.busy = true → s.state ≠ .failCancel → (∃ bs, bytesToSend s = .ok bs) →
    ∃ t, engineTurn .err s = .next t ∧
      t = { s with wire := t.wire, reason := .channelClosed, outcome := .failed, state := .failCancel } ∧
      ∃ x, t.wire = s.wire ++ [x] ∧ (x = .readErr ∨ ∃ bs, x = .wrote bs false)) ∧
  (∀ s : State, s.state = .failCancel →
    ∃ t, engineTurn .err s = .next t ∧ t = { s with wire := t.wire, state := .failed })

/-- Where nothing happens. R213, R214: ticks count only in wait states, a `None` changes nothing. The rest is the model's choice: an engine turn in IDLE, FAILED or SUCCEEDED, where R193 gives the engine no step, is a step that changes nothing (log 21), and so is a turn whose write has no answer yet (R275; logs 3 and 4). -/
def Obligations.QuietTurns : Prop :=
  ∀ s : State,
    (s.busy = false → (∀ ans, engineTurn ans s = .next s) ∧ tickTurn s = s) ∧
    engineTurn .silent s = .next s ∧
    (s.state ∈ [SessionState.awaitInitialReady, .awaitHdrAck, .awaitHdrC, .awaitDataAck, .awaitEotAck, .awaitFinalC,
        .awaitFinalAck] → s.chan = [] → engineTurn .ok s = .next s) ∧
    (s.state ∈ [SessionState.sendHeader, .sendData, .sendEot, .sendFinalHeader, .failCancel] → tickTurn s = s)

/-- R212: a tick before the timeout only counts. -/
def Obligations.TickBeforeTimeoutOnlyCounts : Prop :=
  ∀ (s : State) (b : Byte) (cls : WaitClass), roleOf s.state = .wait b cls →
    s.elapsed.toNat + 1 < cls.ticks s.params → cls.ticks s.params < 2 ^ 32 →
    ∃ t, tickTurn s = t ∧ t = { s with elapsed := t.elapsed } ∧ t.elapsed.toNat = s.elapsed.toNat + 1

/-- R212, R282: from a state that meets the invariant, ticks alone end a wait after exactly the ticks that are left: not before, and the cancel write then ends the session in FAILED with the wait's reason. -/
def Obligations.SilentPeerEndsWait : Prop :=
  ∀ (s : State) (b : Byte) (cls : WaitClass) (ans : ChAnswer) (rest : List Event), Inv s →
    roleOf s.state = .wait b cls → ans ≠ .silent →
    s.script = List.replicate (cls.ticks s.params - s.elapsed.toNat) .tick ++ .engine ans :: rest →
    (∀ n, n < cls.ticks s.params - s.elapsed.toNat →
      ∃ t, stepMany n s = .next t ∧ t.state = s.state) ∧
    ∃ t, stepMany (cls.ticks s.params - s.elapsed.toNat + 1) s = .next t ∧ t.state = .failed ∧
      t.script = rest ∧ t.wire = s.wire ++ [.wrote [0x18#8, 0x18#8] (ans == .ok)] ∧
      t.elapsed.toNat = cls.ticks s.params ∧
      t.reason = (match s.state with
        | .awaitInitialReady => .noCrcRequest
        | .awaitDataAck => .blockNotAcked
        | _ => .timeout)

/-! ## Reset -/

/-- R260, R263, R50: a reset sets every register to its reset value, in any state, and keeps the buffers and the channel's bytes; a power-on reset also leaves no buffer byte with a value. -/
def Obligations.ResetSetsEveryRegister : Prop :=
  ∀ (s : State) (e : Event) (rest : List Event), (e = .reset ∨ e = .powerOn) → s.script = e :: rest →
    step s = .next { s with
      state := .idle, outcome := .none, reason := .none, err := .none, acc := 0x0000#16, len := 0#32, nameLen := 0#8,
      fbIdx := 0#32, chkRes := 0#32, blkIdx := 0#32, seq := 0#8, acked := 0#32, totBlk := 0#32, failBlk := 0#32,
      elapsed := 0#32, progCnt := 0#32, script := rest, mem := if e = .powerOn then [] else s.mem }

/-- R50: the reset state: every register reads 0 but CAP, which reads PAYLOAD_MAX; no buffer byte holds a value; no PROGRESS event; DONE 0. -/
def Obligations.ResetStateValues : Prop :=
  (∀ r : Reg, r ≠ .cap → readReg State.reset r = 0#32) ∧
  readReg State.reset .cap = State.reset.params.payloadMax ∧
  (∀ a, State.reset.mem.read a = none) ∧ State.reset.progress = [] ∧ State.reset.done = false ∧
  State.reset.busy = false

/-! ## Whole-machine rules -/

/-- R21, R248: FAILED and SUCCEEDED (and IDLE) are left only by START, CLEAR or a reset; while busy only the engine, the tick and a reset write STATE. -/
def Obligations.WhoWritesState : Prop :=
  ∀ (s t : State) (e : Event) (rest : List Event), s.script = e :: rest → step s = .next t → t.state ≠ s.state →
    (e = .reset ∨ e = .powerOn) ∨
    (s.busy = false ∧ (e = .hostWrite 0#32 0x00000010#32 ∧ t.state = .awaitInitialReady ∨
      e = .hostWrite 0#32 0x00000011#32 ∧ t.state = .idle)) ∨
    (s.busy = true ∧ (e = .tick ∨ ∃ ans, e = .engine ans))

/-- R51, R66: while busy no step but a reset changes LEN, NAMELEN, FBIDX, NAME, FRAME or PAYLOAD; while not busy only a host write or a reset does. -/
def Obligations.InputsLockedWhileBusy : Prop :=
  ∀ (s t : State) (e : Event) (rest : List Event), s.script = e :: rest → step s = .next t →
    e ≠ .reset → e ≠ .powerOn → (s.busy = true ∨ ∀ a w, e ≠ .hostWrite a w) →
    t.len = s.len ∧ t.nameLen = s.nameLen ∧ t.fbIdx = s.fbIdx ∧ ∀ a, t.mem.read a = s.mem.read a

/-- R81, R246: while busy a host transaction changes nothing of the session, the channel or the outputs. -/
def Obligations.HostCannotDisturbSession : Prop :=
  ∀ (s t : State) (e : Event) (rest : List Event), s.script = e :: rest → step s = .next t → s.busy = true →
    ((∃ a, e = .hostRead a) ∨ ∃ a w, e = .hostWrite a w) →
    t = { s with err := t.err, acc := t.acc, reads := t.reads, draws := t.draws, script := rest }

/-- R81, R126, R41: the engine's turn and the tick do not depend on ERR, ACC, CHKRES, FBIDX or FRAME, and do not change them. -/
def Obligations.SessionIgnoresHostState : Prop :=
  ∀ (s : State) (err : CmdError) (acc : Half) (chk fb : Word) (mem : Memory),
    (∀ a, inFrame a = false → mem.read a = s.mem.read a) →
    (∀ (ans : ChAnswer) (t : State), engineTurn ans s = .next t →
      engineTurn ans { s with err := err, acc := acc, chkRes := chk, fbIdx := fb, mem := mem } =
        .next { t with err := err, acc := acc, chkRes := chk, fbIdx := fb, mem := mem }) ∧
    tickTurn { s with err := err, acc := acc, chkRes := chk, fbIdx := fb, mem := mem } =
      { tickTurn s with err := err, acc := acc, chkRes := chk, fbIdx := fb, mem := mem }

/-- R31, R27, R39: CHKRES is written only by FRAME_CHECK and reset, ACC only by CRC_INIT, CRC_BYTE and reset, and the parameters (CAP) by nothing. -/
def Obligations.WhoWritesCheckResultAccAndCap : Prop :=
  ∀ (s t : State) (e : Event) (rest : List Event), s.script = e :: rest → step s = .next t →
    t.params = s.params ∧
    (t.chkRes ≠ s.chkRes → e = .reset ∨ e = .powerOn ∨ e = .hostWrite 0#32 0x0000000B#32) ∧
    (t.acc ≠ s.acc → e = .reset ∨ e = .powerOn ∨ e = .hostWrite 0#32 0x00000001#32 ∨
      ∃ b : Byte, e = .hostWrite 0#32 (0x0000#16 ++ b ++ 0x02#8))

/-- R10, R215: the channel keeps arrival order and gives each byte at most once; the engine reads only in wait states, each read byte being the oldest the channel holds and leaving it, and writes only in send states, one transaction a turn. A byte from the peer joins the channel's end. What another agent's use of the channel answers is the model's reading of R266, R272 and I12 (log 11); that the transactions are recorded is its choice (log 9). -/
def Obligations.ChannelDiscipline : Prop :=
  (∀ (s t : State) (e : Event) (rest : List Event), s.script = e :: rest → step s = .next t →
    (t.chan = s.chan ∨ (∃ b, e = .peer b ∧ t.chan = s.chan ++ [b]) ∨
      (∃ b, s.chan = b :: t.chan ∧
        ((e = .engine .ok ∧ t.wire = s.wire ++ [.got b]) ∨ (e = .foreignTake ∧ s.busy = false ∧ t.wire = s.wire)))) ∧
    (t.wire = s.wire ∨
      (∃ b cls, roleOf s.state = .wait b cls ∧
        ((e = .engine .ok ∧ ∃ x, s.chan = x :: t.chan ∧ t.wire = s.wire ++ [.got x]) ∨
          (e = .engine .err ∧ t.chan = s.chan ∧ t.wire = s.wire ++ [.readErr]))) ∨
      (roleOf s.state = .send ∧ t.chan = s.chan ∧ ∃ bs, bytesToSend s = .ok bs ∧
        ((e = .engine .ok ∧ t.wire = s.wire ++ [.wrote bs true]) ∨
          (e = .engine .err ∧ t.wire = s.wire ++ [.wrote bs false]))))) ∧
  (∀ (s : State) (rest : List Event),
    (∀ b, s.script = .peer b :: rest → step s = .next { s with chan := s.chan ++ [b], script := rest }) ∧
    (s.script = .foreignTake :: rest → s.busy = false →
      step s = .next { s with chan := s.chan.drop 1, script := rest }) ∧
    (s.script = .foreignTake :: rest → s.busy = true → step s = .fault .channelNotExclusive) ∧
    (∀ bs, s.script = .foreignWrite bs :: rest → s.busy = false → step s = .next { s with script := rest }) ∧
    (∀ bs, s.script = .foreignWrite bs :: rest → s.busy = true → step s = .fault .channelNotExclusive))

/-- The memory map's fault (R43): a send state whose sequence uses a buffer byte that holds no value stops with that byte's address. -/
def Obligations.SendFaultsOnUnwrittenByte : Prop :=
  ∀ s : State,
    (s.state = .sendHeader → s.mem.lacks 0x100 (min s.nameLen.toNat 64) → ∀ ans, ans ≠ .silent →
      ∃ a, engineTurn ans s = .fault (.unwrittenByte a) ∧ s.mem.read a = none) ∧
    (s.state = .sendData →
      s.mem.lacks (0x10000 + (s.blkIdx.toNat - 1) * 128)
        (min (s.blkIdx.toNat * 128) s.len.toNat - (s.blkIdx.toNat - 1) * 128) → ∀ ans, ans ≠ .silent →
      ∃ a, engineTurn ans s = .fault (.unwrittenByte a) ∧ s.mem.read a = none)

/-! ## The invariant and the session's results -/

/-- The reset state meets the invariant; its parameters are the model's choice (log 5). -/
def Obligations.ResetMeetsTheInvariant : Prop := Inv State.reset

/-- Every step keeps the invariant, from every state that meets it (R21 to R51, R207, R208). -/
def Obligations.EveryStepKeepsTheInvariant : Prop := ∀ s t : State, Inv s → step s = .next t → Inv t

/-- R208: on reaching SUCCEEDED, PROGCNT = TOTBLK = ceil(LEN / 128) and ACKED = LEN; on reaching FAILED after BLOCK_NOT_ACKED, PROGCNT = FAILBLK - 1. -/
def Obligations.TerminalCounters : Prop :=
  ∀ s t : State, Inv s → step s = .next t → s.busy = true →
    (t.state = .succeeded → t.progCnt = t.totBlk ∧ t.totBlk.toNat = totalBlocks t.len.toNat ∧ t.acked = t.len) ∧
    (t.state = .failed → t.reason = .blockNotAcked → t.progCnt.toNat + 1 = t.failBlk.toNat)

/-- R206, R207: a step emits at most one PROGRESS event, and only when a data block is acknowledged; its count of bytes is min(k * 128, LEN) for the k-th event, is more than before, and lies in 1..LEN. -/
def Obligations.ProgressIsStrictlyIncreasing : Prop :=
  ∀ s t : State, Inv s → step s = .next t → t.progress ≠ s.progress →
    s.state = .awaitDataAck ∧
    t.progress = s.progress ++ [⟨0, nameReference s, s.len, t.acked⟩] ∧
    t.progCnt.toNat = s.progCnt.toNat + 1 ∧ t.acked.toNat = min (t.progCnt.toNat * 128) s.len.toNat ∧
    s.acked.toNat < t.acked.toNat ∧ 1 ≤ t.acked.toNat ∧ t.acked.toNat ≤ s.len.toNat

/-- R217, one step: while a session meets no failure its channel transactions are the ones its position (STATE, BLKIDX) determines. -/
def Obligations.TranscriptFollowsPosition : Prop :=
  ∀ (s t : State) (before : List ChTxn), Inv s → s.busy = true → s.state ≠ .failCancel →
    s.wire = before ++ txnsSoFar s → step s = .next t → t.state ≠ .failCancel → t.state ≠ .idle →
    t.wire = before ++ txnsSoFar t

/-- R217: a session that reaches SUCCEEDED has exchanged exactly the transcript: the header frame, data frames 1 to N, EOT and the end-of-batch frame written, with 'C', ACK, 'C', N ACKs, ACK, 'C', ACK read between them; N + 3 writes and N + 6 bytes read. -/
def Obligations.SuccessfulSessionTranscript : Prop :=
  ∀ s t u : State, Inv s → s.busy = false → s.len ≤ s.params.payloadMax → exec .start s = .next t → ActiveRun t u →
    u.state = .succeeded →
    u.wire = s.wire ++ sessionTxns u ∧
    ((sessionTxns u).filter ChTxn.isWrite).length = u.totBlk.toNat + 3 ∧
    ((sessionTxns u).filter ChTxn.isByteRead).length = u.totBlk.toNat + 6 ∧
    u.mem = s.mem ∧ u.len = s.len ∧ u.nameLen = s.nameLen ∧ u.totBlk.toNat = totalBlocks s.len.toNat

/-- R217: a session never writes the cancel pair unless it fails: after any stretch of one session that is in no failure state, no cancel pair has been added to the wire. -/
def Obligations.NoCancelPairWithoutFailure : Prop :=
  ∀ s t u : State, Inv s → s.busy = false → s.len ≤ s.params.payloadMax → exec .start s = .next t → ActiveRun t u →
    u.state ≠ .failed → u.state ≠ .idle →
    ∃ added, u.wire = s.wire ++ added ∧ ∀ ok, ChTxn.wrote [0x18#8, 0x18#8] ok ∉ added

/-- R282: a session spends at most T_INIT_MS + (TOTBLK + 5) * T_ACK_MS ticks in wait states. -/
def Obligations.WaitTicksAreBounded : Prop :=
  ∀ (s t u : State) (n : Nat), Inv s → s.busy = false → s.len ≤ s.params.payloadMax → exec .start s = .next t →
    CountedRun n t u → n ≤ s.params.tInitMs + (t.totBlk.toNat + 5) * s.params.tAckMs
end

