-- ==== Sys2Proof/Laws/Codec.lean ====
section
/-! SUPPORT. The decoder's and the encoder's small lemmas (30_encoding.md R90 to R93). -/

namespace Sys2Proof

@[simp] theorem fieldsOf_wordOf (f : CommandFields) : fieldsOf (wordOf f) = f := by
  obtain ⟨op, arg, rsv⟩ := f
  simp only [fieldsOf, wordOf, CommandFields.mk.injEq]
  refine ⟨?_, ?_, ?_⟩
  · ext i hi; simp; grind
  · ext i hi; simp; grind
  · ext i hi; simp; grind

@[simp] theorem wordOf_fieldsOf (w : Word) : wordOf (fieldsOf w) = w := by
  ext i hi
  simp [fieldsOf, wordOf]
  grind

/-- Cutting a word into fields loses nothing. -/
theorem fieldsOf_injective {w w' : Word} (h : fieldsOf w = fieldsOf w') : w = w' := by
  rw [← wordOf_fieldsOf w, h, wordOf_fieldsOf]

theorem plainCommand_ok {arg : Byte} {i j : Instr} (h : plainCommand arg i = .ok j) : arg = 0#8 ∧ j = i := by
  unfold plainCommand at h
  split at h
  · exact ⟨‹_›, by simpa using h.symm⟩
  · simp at h

/-- The fields of each command (R91). -/
def fieldsFor : Instr → CommandFields
  | .nop => ⟨0x00#8, 0#8, 0#16⟩
  | .crcInit => ⟨0x01#8, 0#8, 0#16⟩
  | .crcByte b => ⟨0x02#8, b, 0#16⟩
  | .frameHdr => ⟨0x08#8, 0#8, 0#16⟩
  | .frameData => ⟨0x09#8, 0#8, 0#16⟩
  | .frameEnd => ⟨0x0A#8, 0#8, 0#16⟩
  | .frameCheck => ⟨0x0B#8, 0#8, 0#16⟩
  | .start => ⟨0x10#8, 0#8, 0#16⟩
  | .clear => ⟨0x11#8, 0#8, 0#16⟩

theorem encode_eq_wordOf (i : Instr) : encode i = wordOf (fieldsFor i) := by
  cases i <;> rfl

theorem fieldsOf_encode (i : Instr) : fieldsOf (encode i) = fieldsFor i := by
  rw [encode_eq_wordOf, fieldsOf_wordOf]

/-- What the decoder accepts, said once. -/
theorem decodeFields_ok {f : CommandFields} {i : Instr} (h : decodeFields f = .ok i) : f = fieldsFor i := by
  obtain ⟨op, arg, rsv⟩ := f
  unfold decodeFields at h
  simp only at h
  split at h
  · simp at h
  · rename_i hr
    have hr : rsv = 0#16 := Decidable.not_not.1 hr
    split at h
    · rename_i ho
      simp only [Except.ok.injEq] at h
      subst h hr ho
      rfl
    · repeat' split at h
      all_goals first
        | (obtain ⟨rfl, rfl⟩ := plainCommand_ok h; subst_vars; rfl)
        | simp at h

/-- An accepted command's fields are well formed. -/
theorem fieldsFor_wf (i : Instr) : (fieldsFor i).wf = true := by
  cases i <;> rfl

end Sys2Proof
end

