-- ==== Sys2Proof/Laws/Fields.lean ====
section
/-! SUPPORT. The fields of the CHKRES word (10_state.md R31, 41_framing.md R149), and a byte as a word. -/

namespace Sys2Proof.Machine

theorem bit_getLsbD (b : Bool) (i : Nat) : (bit b).getLsbD i = (decide (i = 0) && b) := by
  cases b
  · simp [bit]
  · simp only [bit, if_true, Bool.and_true]
    rw [show (1#32) = BitVec.twoPow 32 0 from by decide, BitVec.getLsbD_twoPow]
    by_cases h : i = 0 <;> simp [h, eq_comm]

theorem bit_shift_getLsbD (b : Bool) (k i : Nat) (hk : k < 32) :
    (bit b <<< k).getLsbD i = (decide (i = k) && b) := by
  simp only [BitVec.getLsbD_shiftLeft, bit_getLsbD]
  by_cases h : i = k
  · subst h; simp [hk]
  · by_cases h' : i < k
    · simp [h', h]
    · have : i - k ≠ 0 := by omega
      simp [this, h]

/-- Bit `i` of the CHKRES word. -/
theorem chkResWord_getLsbD (c : Half) (b : Byte) (sq ck cp mk : Bool) (i : Nat) :
    (chkResWord c b sq ck cp mk).getLsbD i =
      ((decide (i < 32) && !decide (i < 16) && c.getLsbD (i - 16)) ||
       (decide (i < 32) && !decide (i < 8) && b.getLsbD (i - 8)) ||
       (decide (i = 4) && sq) || (decide (i = 3) && ck) || (decide (i = 2) && cp) || (decide (i = 1) && mk) ||
       (decide (i = 0) && (mk && cp && ck))) := by
  unfold chkResWord
  simp only [BitVec.getLsbD_or, bit_getLsbD, bit_shift_getLsbD _ 4 _ (by omega), bit_shift_getLsbD _ 3 _ (by omega),
    bit_shift_getLsbD _ 2 _ (by omega), bit_shift_getLsbD _ 1 _ (by omega), BitVec.getLsbD_shiftLeft,
    BitVec.getLsbD_setWidth]
  by_cases h : i < 32
  · have h1 : i - 16 < 32 := by omega
    have h2 : i - 8 < 32 := by omega
    simp [h, h1, h2]
  · simp [h]

@[simp] theorem chkResWord_markerOk (c : Half) (b : Byte) (sq ck cp mk : Bool) :
    (chkResWord c b sq ck cp mk).getLsbD 1 = mk := by rw [chkResWord_getLsbD]; simp

@[simp] theorem chkResWord_complOk (c : Half) (b : Byte) (sq ck cp mk : Bool) :
    (chkResWord c b sq ck cp mk).getLsbD 2 = cp := by rw [chkResWord_getLsbD]; simp

@[simp] theorem chkResWord_crcOk (c : Half) (b : Byte) (sq ck cp mk : Bool) :
    (chkResWord c b sq ck cp mk).getLsbD 3 = ck := by rw [chkResWord_getLsbD]; simp

@[simp] theorem chkResWord_seqOk (c : Half) (b : Byte) (sq ck cp mk : Bool) :
    (chkResWord c b sq ck cp mk).getLsbD 4 = sq := by rw [chkResWord_getLsbD]; simp

@[simp] theorem chkResWord_valid (c : Half) (b : Byte) (sq ck cp mk : Bool) :
    (chkResWord c b sq ck cp mk).getLsbD 0 = (mk && cp && ck) := by rw [chkResWord_getLsbD]; simp

@[simp] theorem chkResWord_reserved (c : Half) (b : Byte) (sq ck cp mk : Bool) :
    (chkResWord c b sq ck cp mk).extractLsb' 5 3 = 0#3 := by
  apply BitVec.eq_of_getLsbD_eq
  intro i hi
  have h : i = 0 ∨ i = 1 ∨ i = 2 := by omega
  rcases h with rfl | rfl | rfl <;> simp only [BitVec.getLsbD_extractLsb', chkResWord_getLsbD] <;> simp

@[simp] theorem chkResWord_blkNum (c : Half) (b : Byte) (sq ck cp mk : Bool) :
    (chkResWord c b sq ck cp mk).extractLsb' 8 8 = b := by
  apply BitVec.eq_of_getLsbD_eq
  intro i hi
  simp only [BitVec.getLsbD_extractLsb', chkResWord_getLsbD]
  have h1 : 8 + i < 32 := by omega
  have h2 : 8 + i < 16 := by omega
  simp only [h1, h2, hi]
  simp
  have e4 : ¬ (8 + i = 4) := by omega
  have e3 : ¬ (8 + i = 3) := by omega
  have e2 : ¬ (8 + i = 2) := by omega
  have e1 : ¬ (8 + i = 1) := by omega
  simp [e4, e3, e2, e1]

@[simp] theorem chkResWord_crcCalc (c : Half) (b : Byte) (sq ck cp mk : Bool) :
    (chkResWord c b sq ck cp mk).extractLsb' 16 16 = c := by
  apply BitVec.eq_of_getLsbD_eq
  intro i hi
  simp only [BitVec.getLsbD_extractLsb', chkResWord_getLsbD]
  have h1 : 16 + i < 32 := by omega
  have h2 : ¬ (16 + i < 16) := by omega
  have h3 : b.getLsbD (16 + i - 8) = false := BitVec.getLsbD_of_ge b _ (by omega)
  simp only [h1, h2, h3, hi]
  simp
  have e4 : ¬ (16 + i = 4) := by omega
  have e3 : ¬ (16 + i = 3) := by omega
  have e2 : ¬ (16 + i = 2) := by omega
  have e1 : ¬ (16 + i = 1) := by omega
  simp [e4, e3, e2, e1]

/-- A byte read as a word: bits [31:8] are 0 (20_memory.md R63). -/
theorem byte_as_word (b : Byte) : b.setWidth 32 = 0x000000#24 ++ b := by
  rw [BitVec.setWidth_eq_append (by omega)]; simp

/-- The low byte of a word. -/
theorem low_byte (w : Word) : w.setWidth 8 = w.extractLsb' 0 8 := by
  ext i hi; simp

end Sys2Proof.Machine
end

