-- ==== Sys2Proof/Laws/Memory.lean ====
section
/-! SUPPORT. The laws of buffer memory: a read after a write, ranges, the canonical form (20_memory.md R63). -/

namespace Sys2Proof.Machine

/-! ## One byte -/

@[simp] theorem Memory.read_nil (a : Nat) : Memory.read [] a = none := rfl

theorem Memory.read_write_same (m : Memory) (a : Nat) (b : Byte) : (m.write a b).read a = some b := by
  induction m with
  | nil => simp [Memory.write, Memory.read]
  | cons c rest ih =>
    obtain ⟨k, v⟩ := c
    simp only [Memory.write]
    split
    · simp [Memory.read]
    · split
      · simp [Memory.read]
      · have hk : k ≠ a := fun h => ‹¬ a = k› h.symm
        simpa [Memory.read, hk] using ih

theorem Memory.read_write_other (m : Memory) {a c : Nat} (b : Byte) (h : c ≠ a) :
    (m.write a b).read c = m.read c := by
  induction m with
  | nil => simp [Memory.write, Memory.read, Ne.symm h]
  | cons e rest ih =>
    obtain ⟨k, v⟩ := e
    simp only [Memory.write]
    split
    · simp [Memory.read, Ne.symm h]
    · split
      · rename_i hk
        simp [Memory.read, ← hk, Ne.symm h]
      · simp only [Memory.read, ih]

/-! ## Ranges -/

theorem Memory.writeRange_read_outside (m : Memory) (a : Nat) (bs : List Byte) (c : Nat)
    (h : c < a ∨ a + bs.length ≤ c) : (m.writeRange a bs).read c = m.read c := by
  induction bs generalizing m a with
  | nil => rfl
  | cons b bs ih =>
    simp only [List.length_cons] at h
    rw [Memory.writeRange, ih (m.write a b) (a + 1) (by omega)]
    exact Memory.read_write_other m b (by omega)

theorem Memory.writeRange_holds (m : Memory) (a : Nat) (bs : List Byte) : (m.writeRange a bs).holds a bs := by
  induction bs generalizing m a with
  | nil => intro i hi; simp at hi
  | cons b bs ih =>
    intro i hi
    cases i with
    | zero =>
      rw [Memory.writeRange, Memory.writeRange_read_outside _ _ _ _ (by omega)]
      simpa using Memory.read_write_same m a b
    | succ i =>
      have := ih (m.write a b) (a + 1) i (by simpa using hi)
      simpa [Memory.writeRange, Nat.add_assoc, Nat.add_comm 1 i] using this

/-- What a range store does, said once. -/
theorem Memory.writeRange_stored (m : Memory) (a : Nat) (bs : List Byte) : m.stored (m.writeRange a bs) a bs :=
  ⟨Memory.writeRange_holds m a bs, Memory.writeRange_read_outside m a bs⟩

theorem Memory.write_stored (m : Memory) (a : Nat) (b : Byte) : m.stored (m.write a b) a [b] :=
  Memory.writeRange_stored m a [b]

theorem Memory.readRange_length {m : Memory} {a n : Nat} {bs : List Byte} (h : m.readRange a n = .ok bs) :
    bs.length = n := by
  induction n generalizing a bs with
  | zero => simp only [Memory.readRange, Except.ok.injEq] at h; simp [← h]
  | succ n ih =>
    simp only [Memory.readRange] at h
    split at h
    · simp at h
    · split at h
      · rename_i bs' hb
        simp only [Except.ok.injEq] at h
        simp [← h, ih hb]
      · simp at h

/-- A range read succeeds exactly with the bytes memory holds there. -/
theorem Memory.readRange_ok_iff {m : Memory} {a n : Nat} {bs : List Byte} :
    m.readRange a n = .ok bs ↔ bs.length = n ∧ m.holds a bs := by
  induction n generalizing a bs with
  | zero =>
    constructor
    · intro h
      simp only [Memory.readRange, Except.ok.injEq] at h
      subst h
      exact ⟨rfl, fun i hi => by simp at hi⟩
    · rintro ⟨h, -⟩
      rw [List.length_eq_zero_iff] at h
      simp [Memory.readRange, h]
  | succ n ih =>
    constructor
    · intro h
      refine ⟨Memory.readRange_length h, ?_⟩
      simp only [Memory.readRange] at h
      split at h
      · simp at h
      · rename_i b hb
        split at h
        · rename_i bs' hbs
          simp only [Except.ok.injEq] at h
          subst h
          intro i hi
          cases i with
          | zero => simpa using hb
          | succ i =>
            have := (ih.1 hbs).2 i (by simpa using hi)
            simpa [Nat.add_assoc, Nat.add_comm 1 i] using this
        · simp at h
    · rintro ⟨hl, hh⟩
      cases bs with
      | nil => simp at hl
      | cons b bs =>
        have h0 : m.read a = some b := by simpa using hh 0 (by simp)
        have hr : m.readRange (a + 1) n = .ok bs := by
          refine ih.2 ⟨by simpa using hl, fun i hi => ?_⟩
          have := hh (i + 1) (by simpa using hi)
          simpa [Nat.add_assoc, Nat.add_comm 1 i] using this
        simp [Memory.readRange, h0, hr]

/-- A range read that meets a byte that holds no value names it. -/
theorem Memory.readRange_of_lacks {m : Memory} {a n : Nat} (h : m.lacks a n) :
    ∃ c, m.readRange a n = .error c ∧ m.read c = none := by
  induction n generalizing a with
  | zero => obtain ⟨i, hi, -⟩ := h; omega
  | succ n ih =>
    simp only [Memory.readRange]
    cases hb : m.read a with
    | none => exact ⟨a, rfl, hb⟩
    | some b =>
      obtain ⟨i, hi, hn⟩ := h
      have hl : m.lacks (a + 1) n := by
        cases i with
        | zero => simp [hb] at hn
        | succ i => exact ⟨i, by omega, by simpa [Nat.add_assoc, Nat.add_comm 1 i] using hn⟩
      obtain ⟨c, hc, hcn⟩ := ih hl
      exact ⟨c, by simp [hc], hcn⟩

/-- A range read sees only the range. -/
theorem Memory.readRange_congr {m m' : Memory} {a n : Nat} (h : ∀ i, i < n → m.read (a + i) = m'.read (a + i)) :
    m.readRange a n = m'.readRange a n := by
  induction n generalizing a with
  | zero => rfl
  | succ n ih =>
    have h0 : m.read a = m'.read a := by simpa using h 0 (by omega)
    have hr := ih (a := a + 1) fun i hi => by
      have := h (i + 1) (by omega)
      simpa [Nat.add_assoc, Nat.add_comm 1 i] using this
    simp [Memory.readRange, h0, hr]

/-! ## The canonical form -/

theorem Memory.wf_iff (m : Memory) : m.wf = true ↔ m.Pairwise (fun x y => x.1 < y.1) := by simp [Memory.wf]

/-- An entry of a written memory is the written one or an old one. -/
theorem Memory.mem_write {m : Memory} {a : Nat} {b : Byte} {c : Host.Cell} (h : c ∈ m.write a b) :
    c = (a, b) ∨ c ∈ m := by
  induction m with
  | nil => simpa [Memory.write] using h
  | cons e rest ih =>
    obtain ⟨k, v⟩ := e
    simp only [Memory.write] at h
    split at h
    · simpa using h
    · split at h
      · rcases List.mem_cons.1 h with h | h
        · exact .inl h
        · exact .inr (List.mem_cons_of_mem _ h)
      · rcases List.mem_cons.1 h with h | h
        · exact .inr (h ▸ List.mem_cons_self)
        · rcases ih h with h | h
          · exact .inl h
          · exact .inr (List.mem_cons_of_mem _ h)

theorem Memory.write_keeps_wf {m : Memory} (a : Nat) (b : Byte) (h : m.wf = true) : (m.write a b).wf = true := by
  rw [Memory.wf_iff] at h ⊢
  induction m with
  | nil => simp [Memory.write]
  | cons e rest ih =>
    obtain ⟨k, v⟩ := e
    obtain ⟨hk, hrest⟩ := List.pairwise_cons.1 h
    simp only [Memory.write]
    split
    · rename_i hak
      refine List.pairwise_cons.2 ⟨fun c hc => ?_, h⟩
      rcases List.mem_cons.1 hc with rfl | hc
      · exact hak
      · exact lt_trans hak (hk c hc)
    · split
      · rename_i _ heq
        subst heq
        exact List.pairwise_cons.2 ⟨hk, hrest⟩
      · rename_i h1 h2
        refine List.pairwise_cons.2 ⟨fun c hc => ?_, ih hrest⟩
        rcases Memory.mem_write hc with rfl | hc
        · simp only; omega
        · exact hk c hc

theorem Memory.writeRange_keeps_wf {m : Memory} (a : Nat) (bs : List Byte) (h : m.wf = true) :
    (m.writeRange a bs).wf = true := by
  induction bs generalizing m a with
  | nil => exact h
  | cons b bs ih => exact ih (a + 1) (Memory.write_keeps_wf a b h)

theorem Memory.mem_writeRange {m : Memory} {a : Nat} {bs : List Byte} {c : Host.Cell} (h : c ∈ m.writeRange a bs) :
    (a ≤ c.1 ∧ c.1 < a + bs.length) ∨ c ∈ m := by
  induction bs generalizing m a with
  | nil => exact .inr h
  | cons b bs ih =>
    rcases ih h with h | h
    · exact .inl ⟨by omega, by simp only [List.length_cons]; omega⟩
    · rcases Memory.mem_write h with rfl | h
      · exact .inl ⟨le_refl _, by simp⟩
      · exact .inr h

/-- Reset memory has the canonical form. -/
theorem reset_mem_wf : State.reset.mem.wf = true := rfl

end Sys2Proof.Machine
end

