-- ==== Sys2Proof/Laws/State.lean ====
section
/-! SUPPORT. What each named update leaves in each field of State: one lemma per field per update, so that no later proof unfolds a record update. -/

namespace Sys2Proof.Machine

open Sys2Proof.Config

/-! ## sessionFail -/

@[simp] theorem sessionFail_state (r : FailReason) (s : State) : (sessionFail r s).state = .failCancel := rfl
@[simp] theorem sessionFail_outcome (r : FailReason) (s : State) : (sessionFail r s).outcome = .failed := rfl
@[simp] theorem sessionFail_reason (r : FailReason) (s : State) : (sessionFail r s).reason = r := rfl
@[simp] theorem sessionFail_err (r : FailReason) (s : State) : (sessionFail r s).err = s.err := rfl
@[simp] theorem sessionFail_acc (r : FailReason) (s : State) : (sessionFail r s).acc = s.acc := rfl
@[simp] theorem sessionFail_len (r : FailReason) (s : State) : (sessionFail r s).len = s.len := rfl
@[simp] theorem sessionFail_nameLen (r : FailReason) (s : State) : (sessionFail r s).nameLen = s.nameLen := rfl
@[simp] theorem sessionFail_fbIdx (r : FailReason) (s : State) : (sessionFail r s).fbIdx = s.fbIdx := rfl
@[simp] theorem sessionFail_chkRes (r : FailReason) (s : State) : (sessionFail r s).chkRes = s.chkRes := rfl
@[simp] theorem sessionFail_blkIdx (r : FailReason) (s : State) : (sessionFail r s).blkIdx = s.blkIdx := rfl
@[simp] theorem sessionFail_seq (r : FailReason) (s : State) : (sessionFail r s).seq = s.seq := rfl
@[simp] theorem sessionFail_acked (r : FailReason) (s : State) : (sessionFail r s).acked = s.acked := rfl
@[simp] theorem sessionFail_totBlk (r : FailReason) (s : State) : (sessionFail r s).totBlk = s.totBlk := rfl
@[simp] theorem sessionFail_failBlk (r : FailReason) (s : State) : (sessionFail r s).failBlk = s.failBlk := rfl
@[simp] theorem sessionFail_elapsed (r : FailReason) (s : State) : (sessionFail r s).elapsed = s.elapsed := rfl
@[simp] theorem sessionFail_progCnt (r : FailReason) (s : State) : (sessionFail r s).progCnt = s.progCnt := rfl
@[simp] theorem sessionFail_params (r : FailReason) (s : State) : (sessionFail r s).params = s.params := rfl
@[simp] theorem sessionFail_mem (r : FailReason) (s : State) : (sessionFail r s).mem = s.mem := rfl
@[simp] theorem sessionFail_chan (r : FailReason) (s : State) : (sessionFail r s).chan = s.chan := rfl
@[simp] theorem sessionFail_wire (r : FailReason) (s : State) : (sessionFail r s).wire = s.wire := rfl
@[simp] theorem sessionFail_progress (r : FailReason) (s : State) : (sessionFail r s).progress = s.progress := rfl
@[simp] theorem sessionFail_reads (r : FailReason) (s : State) : (sessionFail r s).reads = s.reads := rfl
@[simp] theorem sessionFail_draws (r : FailReason) (s : State) : (sessionFail r s).draws = s.draws := rfl
@[simp] theorem sessionFail_script (r : FailReason) (s : State) : (sessionFail r s).script = s.script := rfl

/-! ## endSession -/

@[simp] theorem endSession_state (s : State) : (endSession s).state = .idle := rfl
@[simp] theorem endSession_outcome (s : State) : (endSession s).outcome = .none := rfl
@[simp] theorem endSession_reason (s : State) : (endSession s).reason = .none := rfl
@[simp] theorem endSession_err (s : State) : (endSession s).err = s.err := rfl
@[simp] theorem endSession_acc (s : State) : (endSession s).acc = s.acc := rfl
@[simp] theorem endSession_len (s : State) : (endSession s).len = s.len := rfl
@[simp] theorem endSession_nameLen (s : State) : (endSession s).nameLen = s.nameLen := rfl
@[simp] theorem endSession_fbIdx (s : State) : (endSession s).fbIdx = s.fbIdx := rfl
@[simp] theorem endSession_chkRes (s : State) : (endSession s).chkRes = s.chkRes := rfl
@[simp] theorem endSession_blkIdx (s : State) : (endSession s).blkIdx = 0#32 := rfl
@[simp] theorem endSession_seq (s : State) : (endSession s).seq = 0#8 := rfl
@[simp] theorem endSession_acked (s : State) : (endSession s).acked = 0#32 := rfl
@[simp] theorem endSession_totBlk (s : State) : (endSession s).totBlk = 0#32 := rfl
@[simp] theorem endSession_failBlk (s : State) : (endSession s).failBlk = 0#32 := rfl
@[simp] theorem endSession_elapsed (s : State) : (endSession s).elapsed = 0#32 := rfl
@[simp] theorem endSession_progCnt (s : State) : (endSession s).progCnt = 0#32 := rfl
@[simp] theorem endSession_params (s : State) : (endSession s).params = s.params := rfl
@[simp] theorem endSession_mem (s : State) : (endSession s).mem = s.mem := rfl
@[simp] theorem endSession_chan (s : State) : (endSession s).chan = s.chan := rfl
@[simp] theorem endSession_wire (s : State) : (endSession s).wire = s.wire := rfl
@[simp] theorem endSession_progress (s : State) : (endSession s).progress = s.progress := rfl
@[simp] theorem endSession_reads (s : State) : (endSession s).reads = s.reads := rfl
@[simp] theorem endSession_draws (s : State) : (endSession s).draws = s.draws := rfl
@[simp] theorem endSession_script (s : State) : (endSession s).script = s.script := rfl

/-! ## clearReturn -/

@[simp] theorem clearReturn_state (s : State) : (clearReturn s).state = .idle := rfl
@[simp] theorem clearReturn_outcome (s : State) : (clearReturn s).outcome = .none := rfl
@[simp] theorem clearReturn_reason (s : State) : (clearReturn s).reason = .none := rfl
@[simp] theorem clearReturn_err (s : State) : (clearReturn s).err = .none := rfl
@[simp] theorem clearReturn_acc (s : State) : (clearReturn s).acc = s.acc := rfl
@[simp] theorem clearReturn_len (s : State) : (clearReturn s).len = s.len := rfl
@[simp] theorem clearReturn_nameLen (s : State) : (clearReturn s).nameLen = s.nameLen := rfl
@[simp] theorem clearReturn_fbIdx (s : State) : (clearReturn s).fbIdx = s.fbIdx := rfl
@[simp] theorem clearReturn_chkRes (s : State) : (clearReturn s).chkRes = s.chkRes := rfl
@[simp] theorem clearReturn_blkIdx (s : State) : (clearReturn s).blkIdx = 0#32 := rfl
@[simp] theorem clearReturn_seq (s : State) : (clearReturn s).seq = 0#8 := rfl
@[simp] theorem clearReturn_acked (s : State) : (clearReturn s).acked = 0#32 := rfl
@[simp] theorem clearReturn_totBlk (s : State) : (clearReturn s).totBlk = 0#32 := rfl
@[simp] theorem clearReturn_failBlk (s : State) : (clearReturn s).failBlk = 0#32 := rfl
@[simp] theorem clearReturn_elapsed (s : State) : (clearReturn s).elapsed = 0#32 := rfl
@[simp] theorem clearReturn_progCnt (s : State) : (clearReturn s).progCnt = 0#32 := rfl
@[simp] theorem clearReturn_params (s : State) : (clearReturn s).params = s.params := rfl
@[simp] theorem clearReturn_mem (s : State) : (clearReturn s).mem = s.mem := rfl
@[simp] theorem clearReturn_chan (s : State) : (clearReturn s).chan = s.chan := rfl
@[simp] theorem clearReturn_wire (s : State) : (clearReturn s).wire = s.wire := rfl
@[simp] theorem clearReturn_progress (s : State) : (clearReturn s).progress = s.progress := rfl
@[simp] theorem clearReturn_reads (s : State) : (clearReturn s).reads = s.reads := rfl
@[simp] theorem clearReturn_draws (s : State) : (clearReturn s).draws = s.draws := rfl
@[simp] theorem clearReturn_script (s : State) : (clearReturn s).script = s.script := rfl

/-! ## beginSession -/

@[simp] theorem beginSession_state (s : State) : (beginSession s).state = .awaitInitialReady := rfl
@[simp] theorem beginSession_outcome (s : State) : (beginSession s).outcome = .pending := rfl
@[simp] theorem beginSession_reason (s : State) : (beginSession s).reason = .none := rfl
@[simp] theorem beginSession_err (s : State) : (beginSession s).err = s.err := rfl
@[simp] theorem beginSession_acc (s : State) : (beginSession s).acc = s.acc := rfl
@[simp] theorem beginSession_len (s : State) : (beginSession s).len = s.len := rfl
@[simp] theorem beginSession_nameLen (s : State) : (beginSession s).nameLen = s.nameLen := rfl
@[simp] theorem beginSession_fbIdx (s : State) : (beginSession s).fbIdx = s.fbIdx := rfl
@[simp] theorem beginSession_chkRes (s : State) : (beginSession s).chkRes = s.chkRes := rfl
@[simp] theorem beginSession_blkIdx (s : State) : (beginSession s).blkIdx = 1#32 := rfl
@[simp] theorem beginSession_seq (s : State) : (beginSession s).seq = 1#8 := rfl
@[simp] theorem beginSession_acked (s : State) : (beginSession s).acked = 0#32 := rfl
@[simp] theorem beginSession_totBlk (s : State) : (beginSession s).totBlk = BitVec.ofNat 32 (totalBlocks s.len.toNat) := rfl
@[simp] theorem beginSession_failBlk (s : State) : (beginSession s).failBlk = 0#32 := rfl
@[simp] theorem beginSession_elapsed (s : State) : (beginSession s).elapsed = 0#32 := rfl
@[simp] theorem beginSession_progCnt (s : State) : (beginSession s).progCnt = 0#32 := rfl
@[simp] theorem beginSession_params (s : State) : (beginSession s).params = s.params := rfl
@[simp] theorem beginSession_mem (s : State) : (beginSession s).mem = s.mem := rfl
@[simp] theorem beginSession_chan (s : State) : (beginSession s).chan = s.chan := rfl
@[simp] theorem beginSession_wire (s : State) : (beginSession s).wire = s.wire := rfl
@[simp] theorem beginSession_progress (s : State) : (beginSession s).progress = s.progress := rfl
@[simp] theorem beginSession_reads (s : State) : (beginSession s).reads = s.reads := rfl
@[simp] theorem beginSession_draws (s : State) : (beginSession s).draws = s.draws := rfl
@[simp] theorem beginSession_script (s : State) : (beginSession s).script = s.script := rfl

/-! ## warmReset -/

@[simp] theorem warmReset_state (s : State) : (warmReset s).state = .idle := rfl
@[simp] theorem warmReset_outcome (s : State) : (warmReset s).outcome = .none := rfl
@[simp] theorem warmReset_reason (s : State) : (warmReset s).reason = .none := rfl
@[simp] theorem warmReset_err (s : State) : (warmReset s).err = .none := rfl
@[simp] theorem warmReset_acc (s : State) : (warmReset s).acc = 0#16 := rfl
@[simp] theorem warmReset_len (s : State) : (warmReset s).len = 0#32 := rfl
@[simp] theorem warmReset_nameLen (s : State) : (warmReset s).nameLen = 0#8 := rfl
@[simp] theorem warmReset_fbIdx (s : State) : (warmReset s).fbIdx = 0#32 := rfl
@[simp] theorem warmReset_chkRes (s : State) : (warmReset s).chkRes = 0#32 := rfl
@[simp] theorem warmReset_blkIdx (s : State) : (warmReset s).blkIdx = 0#32 := rfl
@[simp] theorem warmReset_seq (s : State) : (warmReset s).seq = 0#8 := rfl
@[simp] theorem warmReset_acked (s : State) : (warmReset s).acked = 0#32 := rfl
@[simp] theorem warmReset_totBlk (s : State) : (warmReset s).totBlk = 0#32 := rfl
@[simp] theorem warmReset_failBlk (s : State) : (warmReset s).failBlk = 0#32 := rfl
@[simp] theorem warmReset_elapsed (s : State) : (warmReset s).elapsed = 0#32 := rfl
@[simp] theorem warmReset_progCnt (s : State) : (warmReset s).progCnt = 0#32 := rfl
@[simp] theorem warmReset_params (s : State) : (warmReset s).params = s.params := rfl
@[simp] theorem warmReset_mem (s : State) : (warmReset s).mem = s.mem := rfl
@[simp] theorem warmReset_chan (s : State) : (warmReset s).chan = s.chan := rfl
@[simp] theorem warmReset_wire (s : State) : (warmReset s).wire = s.wire := rfl
@[simp] theorem warmReset_progress (s : State) : (warmReset s).progress = s.progress := rfl
@[simp] theorem warmReset_reads (s : State) : (warmReset s).reads = s.reads := rfl
@[simp] theorem warmReset_draws (s : State) : (warmReset s).draws = s.draws := rfl
@[simp] theorem warmReset_script (s : State) : (warmReset s).script = s.script := rfl

/-! ## recordTxn -/

@[simp] theorem recordTxn_state (x : ChTxn) (s : State) : (recordTxn x s).state = s.state := rfl
@[simp] theorem recordTxn_outcome (x : ChTxn) (s : State) : (recordTxn x s).outcome = s.outcome := rfl
@[simp] theorem recordTxn_reason (x : ChTxn) (s : State) : (recordTxn x s).reason = s.reason := rfl
@[simp] theorem recordTxn_err (x : ChTxn) (s : State) : (recordTxn x s).err = s.err := rfl
@[simp] theorem recordTxn_acc (x : ChTxn) (s : State) : (recordTxn x s).acc = s.acc := rfl
@[simp] theorem recordTxn_len (x : ChTxn) (s : State) : (recordTxn x s).len = s.len := rfl
@[simp] theorem recordTxn_nameLen (x : ChTxn) (s : State) : (recordTxn x s).nameLen = s.nameLen := rfl
@[simp] theorem recordTxn_fbIdx (x : ChTxn) (s : State) : (recordTxn x s).fbIdx = s.fbIdx := rfl
@[simp] theorem recordTxn_chkRes (x : ChTxn) (s : State) : (recordTxn x s).chkRes = s.chkRes := rfl
@[simp] theorem recordTxn_blkIdx (x : ChTxn) (s : State) : (recordTxn x s).blkIdx = s.blkIdx := rfl
@[simp] theorem recordTxn_seq (x : ChTxn) (s : State) : (recordTxn x s).seq = s.seq := rfl
@[simp] theorem recordTxn_acked (x : ChTxn) (s : State) : (recordTxn x s).acked = s.acked := rfl
@[simp] theorem recordTxn_totBlk (x : ChTxn) (s : State) : (recordTxn x s).totBlk = s.totBlk := rfl
@[simp] theorem recordTxn_failBlk (x : ChTxn) (s : State) : (recordTxn x s).failBlk = s.failBlk := rfl
@[simp] theorem recordTxn_elapsed (x : ChTxn) (s : State) : (recordTxn x s).elapsed = s.elapsed := rfl
@[simp] theorem recordTxn_progCnt (x : ChTxn) (s : State) : (recordTxn x s).progCnt = s.progCnt := rfl
@[simp] theorem recordTxn_params (x : ChTxn) (s : State) : (recordTxn x s).params = s.params := rfl
@[simp] theorem recordTxn_mem (x : ChTxn) (s : State) : (recordTxn x s).mem = s.mem := rfl
@[simp] theorem recordTxn_chan (x : ChTxn) (s : State) : (recordTxn x s).chan = s.chan := rfl
@[simp] theorem recordTxn_wire (x : ChTxn) (s : State) : (recordTxn x s).wire = s.wire ++ [x] := rfl
@[simp] theorem recordTxn_progress (x : ChTxn) (s : State) : (recordTxn x s).progress = s.progress := rfl
@[simp] theorem recordTxn_reads (x : ChTxn) (s : State) : (recordTxn x s).reads = s.reads := rfl
@[simp] theorem recordTxn_draws (x : ChTxn) (s : State) : (recordTxn x s).draws = s.draws := rfl
@[simp] theorem recordTxn_script (x : ChTxn) (s : State) : (recordTxn x s).script = s.script := rfl

/-! ## recordRead -/

@[simp] theorem recordRead_state (w : Word) (s : State) : (recordRead w s).state = s.state := rfl
@[simp] theorem recordRead_outcome (w : Word) (s : State) : (recordRead w s).outcome = s.outcome := rfl
@[simp] theorem recordRead_reason (w : Word) (s : State) : (recordRead w s).reason = s.reason := rfl
@[simp] theorem recordRead_err (w : Word) (s : State) : (recordRead w s).err = s.err := rfl
@[simp] theorem recordRead_acc (w : Word) (s : State) : (recordRead w s).acc = s.acc := rfl
@[simp] theorem recordRead_len (w : Word) (s : State) : (recordRead w s).len = s.len := rfl
@[simp] theorem recordRead_nameLen (w : Word) (s : State) : (recordRead w s).nameLen = s.nameLen := rfl
@[simp] theorem recordRead_fbIdx (w : Word) (s : State) : (recordRead w s).fbIdx = s.fbIdx := rfl
@[simp] theorem recordRead_chkRes (w : Word) (s : State) : (recordRead w s).chkRes = s.chkRes := rfl
@[simp] theorem recordRead_blkIdx (w : Word) (s : State) : (recordRead w s).blkIdx = s.blkIdx := rfl
@[simp] theorem recordRead_seq (w : Word) (s : State) : (recordRead w s).seq = s.seq := rfl
@[simp] theorem recordRead_acked (w : Word) (s : State) : (recordRead w s).acked = s.acked := rfl
@[simp] theorem recordRead_totBlk (w : Word) (s : State) : (recordRead w s).totBlk = s.totBlk := rfl
@[simp] theorem recordRead_failBlk (w : Word) (s : State) : (recordRead w s).failBlk = s.failBlk := rfl
@[simp] theorem recordRead_elapsed (w : Word) (s : State) : (recordRead w s).elapsed = s.elapsed := rfl
@[simp] theorem recordRead_progCnt (w : Word) (s : State) : (recordRead w s).progCnt = s.progCnt := rfl
@[simp] theorem recordRead_params (w : Word) (s : State) : (recordRead w s).params = s.params := rfl
@[simp] theorem recordRead_mem (w : Word) (s : State) : (recordRead w s).mem = s.mem := rfl
@[simp] theorem recordRead_chan (w : Word) (s : State) : (recordRead w s).chan = s.chan := rfl
@[simp] theorem recordRead_wire (w : Word) (s : State) : (recordRead w s).wire = s.wire := rfl
@[simp] theorem recordRead_progress (w : Word) (s : State) : (recordRead w s).progress = s.progress := rfl
@[simp] theorem recordRead_reads (w : Word) (s : State) : (recordRead w s).reads = s.reads ++ [w] := rfl
@[simp] theorem recordRead_draws (w : Word) (s : State) : (recordRead w s).draws = s.draws := rfl
@[simp] theorem recordRead_script (w : Word) (s : State) : (recordRead w s).script = s.script := rfl

/-! ## emitProgress -/

@[simp] theorem emitProgress_state (p : Progress) (s : State) : (emitProgress p s).state = s.state := rfl
@[simp] theorem emitProgress_outcome (p : Progress) (s : State) : (emitProgress p s).outcome = s.outcome := rfl
@[simp] theorem emitProgress_reason (p : Progress) (s : State) : (emitProgress p s).reason = s.reason := rfl
@[simp] theorem emitProgress_err (p : Progress) (s : State) : (emitProgress p s).err = s.err := rfl
@[simp] theorem emitProgress_acc (p : Progress) (s : State) : (emitProgress p s).acc = s.acc := rfl
@[simp] theorem emitProgress_len (p : Progress) (s : State) : (emitProgress p s).len = s.len := rfl
@[simp] theorem emitProgress_nameLen (p : Progress) (s : State) : (emitProgress p s).nameLen = s.nameLen := rfl
@[simp] theorem emitProgress_fbIdx (p : Progress) (s : State) : (emitProgress p s).fbIdx = s.fbIdx := rfl
@[simp] theorem emitProgress_chkRes (p : Progress) (s : State) : (emitProgress p s).chkRes = s.chkRes := rfl
@[simp] theorem emitProgress_blkIdx (p : Progress) (s : State) : (emitProgress p s).blkIdx = s.blkIdx := rfl
@[simp] theorem emitProgress_seq (p : Progress) (s : State) : (emitProgress p s).seq = s.seq := rfl
@[simp] theorem emitProgress_acked (p : Progress) (s : State) : (emitProgress p s).acked = s.acked := rfl
@[simp] theorem emitProgress_totBlk (p : Progress) (s : State) : (emitProgress p s).totBlk = s.totBlk := rfl
@[simp] theorem emitProgress_failBlk (p : Progress) (s : State) : (emitProgress p s).failBlk = s.failBlk := rfl
@[simp] theorem emitProgress_elapsed (p : Progress) (s : State) : (emitProgress p s).elapsed = s.elapsed := rfl
@[simp] theorem emitProgress_progCnt (p : Progress) (s : State) : (emitProgress p s).progCnt = s.progCnt := rfl
@[simp] theorem emitProgress_params (p : Progress) (s : State) : (emitProgress p s).params = s.params := rfl
@[simp] theorem emitProgress_mem (p : Progress) (s : State) : (emitProgress p s).mem = s.mem := rfl
@[simp] theorem emitProgress_chan (p : Progress) (s : State) : (emitProgress p s).chan = s.chan := rfl
@[simp] theorem emitProgress_wire (p : Progress) (s : State) : (emitProgress p s).wire = s.wire := rfl
@[simp] theorem emitProgress_progress (p : Progress) (s : State) : (emitProgress p s).progress = s.progress ++ [p] := rfl
@[simp] theorem emitProgress_reads (p : Progress) (s : State) : (emitProgress p s).reads = s.reads := rfl
@[simp] theorem emitProgress_draws (p : Progress) (s : State) : (emitProgress p s).draws = s.draws := rfl
@[simp] theorem emitProgress_script (p : Progress) (s : State) : (emitProgress p s).script = s.script := rfl

/-! ## storeFrame -/

@[simp] theorem storeFrame_state (f : List Byte) (s : State) : (storeFrame f s).state = s.state := rfl
@[simp] theorem storeFrame_outcome (f : List Byte) (s : State) : (storeFrame f s).outcome = s.outcome := rfl
@[simp] theorem storeFrame_reason (f : List Byte) (s : State) : (storeFrame f s).reason = s.reason := rfl
@[simp] theorem storeFrame_err (f : List Byte) (s : State) : (storeFrame f s).err = s.err := rfl
@[simp] theorem storeFrame_acc (f : List Byte) (s : State) : (storeFrame f s).acc = s.acc := rfl
@[simp] theorem storeFrame_len (f : List Byte) (s : State) : (storeFrame f s).len = s.len := rfl
@[simp] theorem storeFrame_nameLen (f : List Byte) (s : State) : (storeFrame f s).nameLen = s.nameLen := rfl
@[simp] theorem storeFrame_fbIdx (f : List Byte) (s : State) : (storeFrame f s).fbIdx = s.fbIdx := rfl
@[simp] theorem storeFrame_chkRes (f : List Byte) (s : State) : (storeFrame f s).chkRes = s.chkRes := rfl
@[simp] theorem storeFrame_blkIdx (f : List Byte) (s : State) : (storeFrame f s).blkIdx = s.blkIdx := rfl
@[simp] theorem storeFrame_seq (f : List Byte) (s : State) : (storeFrame f s).seq = s.seq := rfl
@[simp] theorem storeFrame_acked (f : List Byte) (s : State) : (storeFrame f s).acked = s.acked := rfl
@[simp] theorem storeFrame_totBlk (f : List Byte) (s : State) : (storeFrame f s).totBlk = s.totBlk := rfl
@[simp] theorem storeFrame_failBlk (f : List Byte) (s : State) : (storeFrame f s).failBlk = s.failBlk := rfl
@[simp] theorem storeFrame_elapsed (f : List Byte) (s : State) : (storeFrame f s).elapsed = s.elapsed := rfl
@[simp] theorem storeFrame_progCnt (f : List Byte) (s : State) : (storeFrame f s).progCnt = s.progCnt := rfl
@[simp] theorem storeFrame_params (f : List Byte) (s : State) : (storeFrame f s).params = s.params := rfl
@[simp] theorem storeFrame_mem (f : List Byte) (s : State) : (storeFrame f s).mem = s.mem.writeRange frameBase f := rfl
@[simp] theorem storeFrame_chan (f : List Byte) (s : State) : (storeFrame f s).chan = s.chan := rfl
@[simp] theorem storeFrame_wire (f : List Byte) (s : State) : (storeFrame f s).wire = s.wire := rfl
@[simp] theorem storeFrame_progress (f : List Byte) (s : State) : (storeFrame f s).progress = s.progress := rfl
@[simp] theorem storeFrame_reads (f : List Byte) (s : State) : (storeFrame f s).reads = s.reads := rfl
@[simp] theorem storeFrame_draws (f : List Byte) (s : State) : (storeFrame f s).draws = s.draws := rfl
@[simp] theorem storeFrame_script (f : List Byte) (s : State) : (storeFrame f s).script = s.script := rfl

/-! ## enterWait -/

@[simp] theorem enterWait_state (st : SessionState) (s : State) : (enterWait st s).state = st := rfl
@[simp] theorem enterWait_outcome (st : SessionState) (s : State) : (enterWait st s).outcome = s.outcome := rfl
@[simp] theorem enterWait_reason (st : SessionState) (s : State) : (enterWait st s).reason = s.reason := rfl
@[simp] theorem enterWait_err (st : SessionState) (s : State) : (enterWait st s).err = s.err := rfl
@[simp] theorem enterWait_acc (st : SessionState) (s : State) : (enterWait st s).acc = s.acc := rfl
@[simp] theorem enterWait_len (st : SessionState) (s : State) : (enterWait st s).len = s.len := rfl
@[simp] theorem enterWait_nameLen (st : SessionState) (s : State) : (enterWait st s).nameLen = s.nameLen := rfl
@[simp] theorem enterWait_fbIdx (st : SessionState) (s : State) : (enterWait st s).fbIdx = s.fbIdx := rfl
@[simp] theorem enterWait_chkRes (st : SessionState) (s : State) : (enterWait st s).chkRes = s.chkRes := rfl
@[simp] theorem enterWait_blkIdx (st : SessionState) (s : State) : (enterWait st s).blkIdx = s.blkIdx := rfl
@[simp] theorem enterWait_seq (st : SessionState) (s : State) : (enterWait st s).seq = s.seq := rfl
@[simp] theorem enterWait_acked (st : SessionState) (s : State) : (enterWait st s).acked = s.acked := rfl
@[simp] theorem enterWait_totBlk (st : SessionState) (s : State) : (enterWait st s).totBlk = s.totBlk := rfl
@[simp] theorem enterWait_failBlk (st : SessionState) (s : State) : (enterWait st s).failBlk = s.failBlk := rfl
@[simp] theorem enterWait_elapsed (st : SessionState) (s : State) : (enterWait st s).elapsed = 0#32 := rfl
@[simp] theorem enterWait_progCnt (st : SessionState) (s : State) : (enterWait st s).progCnt = s.progCnt := rfl
@[simp] theorem enterWait_params (st : SessionState) (s : State) : (enterWait st s).params = s.params := rfl
@[simp] theorem enterWait_mem (st : SessionState) (s : State) : (enterWait st s).mem = s.mem := rfl
@[simp] theorem enterWait_chan (st : SessionState) (s : State) : (enterWait st s).chan = s.chan := rfl
@[simp] theorem enterWait_wire (st : SessionState) (s : State) : (enterWait st s).wire = s.wire := rfl
@[simp] theorem enterWait_progress (st : SessionState) (s : State) : (enterWait st s).progress = s.progress := rfl
@[simp] theorem enterWait_reads (st : SessionState) (s : State) : (enterWait st s).reads = s.reads := rfl
@[simp] theorem enterWait_draws (st : SessionState) (s : State) : (enterWait st s).draws = s.draws := rfl
@[simp] theorem enterWait_script (st : SessionState) (s : State) : (enterWait st s).script = s.script := rfl

/-! ## enterState -/

@[simp] theorem enterState_state (st : SessionState) (s : State) : (enterState st s).state = st := rfl
@[simp] theorem enterState_outcome (st : SessionState) (s : State) : (enterState st s).outcome = s.outcome := rfl
@[simp] theorem enterState_reason (st : SessionState) (s : State) : (enterState st s).reason = s.reason := rfl
@[simp] theorem enterState_err (st : SessionState) (s : State) : (enterState st s).err = s.err := rfl
@[simp] theorem enterState_acc (st : SessionState) (s : State) : (enterState st s).acc = s.acc := rfl
@[simp] theorem enterState_len (st : SessionState) (s : State) : (enterState st s).len = s.len := rfl
@[simp] theorem enterState_nameLen (st : SessionState) (s : State) : (enterState st s).nameLen = s.nameLen := rfl
@[simp] theorem enterState_fbIdx (st : SessionState) (s : State) : (enterState st s).fbIdx = s.fbIdx := rfl
@[simp] theorem enterState_chkRes (st : SessionState) (s : State) : (enterState st s).chkRes = s.chkRes := rfl
@[simp] theorem enterState_blkIdx (st : SessionState) (s : State) : (enterState st s).blkIdx = s.blkIdx := rfl
@[simp] theorem enterState_seq (st : SessionState) (s : State) : (enterState st s).seq = s.seq := rfl
@[simp] theorem enterState_acked (st : SessionState) (s : State) : (enterState st s).acked = s.acked := rfl
@[simp] theorem enterState_totBlk (st : SessionState) (s : State) : (enterState st s).totBlk = s.totBlk := rfl
@[simp] theorem enterState_failBlk (st : SessionState) (s : State) : (enterState st s).failBlk = s.failBlk := rfl
@[simp] theorem enterState_elapsed (st : SessionState) (s : State) : (enterState st s).elapsed = s.elapsed := rfl
@[simp] theorem enterState_progCnt (st : SessionState) (s : State) : (enterState st s).progCnt = s.progCnt := rfl
@[simp] theorem enterState_params (st : SessionState) (s : State) : (enterState st s).params = s.params := rfl
@[simp] theorem enterState_mem (st : SessionState) (s : State) : (enterState st s).mem = s.mem := rfl
@[simp] theorem enterState_chan (st : SessionState) (s : State) : (enterState st s).chan = s.chan := rfl
@[simp] theorem enterState_wire (st : SessionState) (s : State) : (enterState st s).wire = s.wire := rfl
@[simp] theorem enterState_progress (st : SessionState) (s : State) : (enterState st s).progress = s.progress := rfl
@[simp] theorem enterState_reads (st : SessionState) (s : State) : (enterState st s).reads = s.reads := rfl
@[simp] theorem enterState_draws (st : SessionState) (s : State) : (enterState st s).draws = s.draws := rfl
@[simp] theorem enterState_script (st : SessionState) (s : State) : (enterState st s).script = s.script := rfl

/-! ## advanceElapsed -/

@[simp] theorem advanceElapsed_state (s : State) : (advanceElapsed s).state = s.state := rfl
@[simp] theorem advanceElapsed_outcome (s : State) : (advanceElapsed s).outcome = s.outcome := rfl
@[simp] theorem advanceElapsed_reason (s : State) : (advanceElapsed s).reason = s.reason := rfl
@[simp] theorem advanceElapsed_err (s : State) : (advanceElapsed s).err = s.err := rfl
@[simp] theorem advanceElapsed_acc (s : State) : (advanceElapsed s).acc = s.acc := rfl
@[simp] theorem advanceElapsed_len (s : State) : (advanceElapsed s).len = s.len := rfl
@[simp] theorem advanceElapsed_nameLen (s : State) : (advanceElapsed s).nameLen = s.nameLen := rfl
@[simp] theorem advanceElapsed_fbIdx (s : State) : (advanceElapsed s).fbIdx = s.fbIdx := rfl
@[simp] theorem advanceElapsed_chkRes (s : State) : (advanceElapsed s).chkRes = s.chkRes := rfl
@[simp] theorem advanceElapsed_blkIdx (s : State) : (advanceElapsed s).blkIdx = s.blkIdx := rfl
@[simp] theorem advanceElapsed_seq (s : State) : (advanceElapsed s).seq = s.seq := rfl
@[simp] theorem advanceElapsed_acked (s : State) : (advanceElapsed s).acked = s.acked := rfl
@[simp] theorem advanceElapsed_totBlk (s : State) : (advanceElapsed s).totBlk = s.totBlk := rfl
@[simp] theorem advanceElapsed_failBlk (s : State) : (advanceElapsed s).failBlk = s.failBlk := rfl
@[simp] theorem advanceElapsed_elapsed (s : State) : (advanceElapsed s).elapsed = s.elapsed + 1#32 := rfl
@[simp] theorem advanceElapsed_progCnt (s : State) : (advanceElapsed s).progCnt = s.progCnt := rfl
@[simp] theorem advanceElapsed_params (s : State) : (advanceElapsed s).params = s.params := rfl
@[simp] theorem advanceElapsed_mem (s : State) : (advanceElapsed s).mem = s.mem := rfl
@[simp] theorem advanceElapsed_chan (s : State) : (advanceElapsed s).chan = s.chan := rfl
@[simp] theorem advanceElapsed_wire (s : State) : (advanceElapsed s).wire = s.wire := rfl
@[simp] theorem advanceElapsed_progress (s : State) : (advanceElapsed s).progress = s.progress := rfl
@[simp] theorem advanceElapsed_reads (s : State) : (advanceElapsed s).reads = s.reads := rfl
@[simp] theorem advanceElapsed_draws (s : State) : (advanceElapsed s).draws = s.draws := rfl
@[simp] theorem advanceElapsed_script (s : State) : (advanceElapsed s).script = s.script := rfl

/-! ## peerSends -/

@[simp] theorem peerSends_state (b : Byte) (s : State) : (peerSends b s).state = s.state := rfl
@[simp] theorem peerSends_outcome (b : Byte) (s : State) : (peerSends b s).outcome = s.outcome := rfl
@[simp] theorem peerSends_reason (b : Byte) (s : State) : (peerSends b s).reason = s.reason := rfl
@[simp] theorem peerSends_err (b : Byte) (s : State) : (peerSends b s).err = s.err := rfl
@[simp] theorem peerSends_acc (b : Byte) (s : State) : (peerSends b s).acc = s.acc := rfl
@[simp] theorem peerSends_len (b : Byte) (s : State) : (peerSends b s).len = s.len := rfl
@[simp] theorem peerSends_nameLen (b : Byte) (s : State) : (peerSends b s).nameLen = s.nameLen := rfl
@[simp] theorem peerSends_fbIdx (b : Byte) (s : State) : (peerSends b s).fbIdx = s.fbIdx := rfl
@[simp] theorem peerSends_chkRes (b : Byte) (s : State) : (peerSends b s).chkRes = s.chkRes := rfl
@[simp] theorem peerSends_blkIdx (b : Byte) (s : State) : (peerSends b s).blkIdx = s.blkIdx := rfl
@[simp] theorem peerSends_seq (b : Byte) (s : State) : (peerSends b s).seq = s.seq := rfl
@[simp] theorem peerSends_acked (b : Byte) (s : State) : (peerSends b s).acked = s.acked := rfl
@[simp] theorem peerSends_totBlk (b : Byte) (s : State) : (peerSends b s).totBlk = s.totBlk := rfl
@[simp] theorem peerSends_failBlk (b : Byte) (s : State) : (peerSends b s).failBlk = s.failBlk := rfl
@[simp] theorem peerSends_elapsed (b : Byte) (s : State) : (peerSends b s).elapsed = s.elapsed := rfl
@[simp] theorem peerSends_progCnt (b : Byte) (s : State) : (peerSends b s).progCnt = s.progCnt := rfl
@[simp] theorem peerSends_params (b : Byte) (s : State) : (peerSends b s).params = s.params := rfl
@[simp] theorem peerSends_mem (b : Byte) (s : State) : (peerSends b s).mem = s.mem := rfl
@[simp] theorem peerSends_chan (b : Byte) (s : State) : (peerSends b s).chan = s.chan ++ [b] := rfl
@[simp] theorem peerSends_wire (b : Byte) (s : State) : (peerSends b s).wire = s.wire := rfl
@[simp] theorem peerSends_progress (b : Byte) (s : State) : (peerSends b s).progress = s.progress := rfl
@[simp] theorem peerSends_reads (b : Byte) (s : State) : (peerSends b s).reads = s.reads := rfl
@[simp] theorem peerSends_draws (b : Byte) (s : State) : (peerSends b s).draws = s.draws := rfl
@[simp] theorem peerSends_script (b : Byte) (s : State) : (peerSends b s).script = s.script := rfl

/-! ## withScript -/

@[simp] theorem withScript_state (s : State) (es : List Event) : (s.withScript es).state = s.state := rfl
@[simp] theorem withScript_outcome (s : State) (es : List Event) : (s.withScript es).outcome = s.outcome := rfl
@[simp] theorem withScript_reason (s : State) (es : List Event) : (s.withScript es).reason = s.reason := rfl
@[simp] theorem withScript_err (s : State) (es : List Event) : (s.withScript es).err = s.err := rfl
@[simp] theorem withScript_acc (s : State) (es : List Event) : (s.withScript es).acc = s.acc := rfl
@[simp] theorem withScript_len (s : State) (es : List Event) : (s.withScript es).len = s.len := rfl
@[simp] theorem withScript_nameLen (s : State) (es : List Event) : (s.withScript es).nameLen = s.nameLen := rfl
@[simp] theorem withScript_fbIdx (s : State) (es : List Event) : (s.withScript es).fbIdx = s.fbIdx := rfl
@[simp] theorem withScript_chkRes (s : State) (es : List Event) : (s.withScript es).chkRes = s.chkRes := rfl
@[simp] theorem withScript_blkIdx (s : State) (es : List Event) : (s.withScript es).blkIdx = s.blkIdx := rfl
@[simp] theorem withScript_seq (s : State) (es : List Event) : (s.withScript es).seq = s.seq := rfl
@[simp] theorem withScript_acked (s : State) (es : List Event) : (s.withScript es).acked = s.acked := rfl
@[simp] theorem withScript_totBlk (s : State) (es : List Event) : (s.withScript es).totBlk = s.totBlk := rfl
@[simp] theorem withScript_failBlk (s : State) (es : List Event) : (s.withScript es).failBlk = s.failBlk := rfl
@[simp] theorem withScript_elapsed (s : State) (es : List Event) : (s.withScript es).elapsed = s.elapsed := rfl
@[simp] theorem withScript_progCnt (s : State) (es : List Event) : (s.withScript es).progCnt = s.progCnt := rfl
@[simp] theorem withScript_params (s : State) (es : List Event) : (s.withScript es).params = s.params := rfl
@[simp] theorem withScript_mem (s : State) (es : List Event) : (s.withScript es).mem = s.mem := rfl
@[simp] theorem withScript_chan (s : State) (es : List Event) : (s.withScript es).chan = s.chan := rfl
@[simp] theorem withScript_wire (s : State) (es : List Event) : (s.withScript es).wire = s.wire := rfl
@[simp] theorem withScript_progress (s : State) (es : List Event) : (s.withScript es).progress = s.progress := rfl
@[simp] theorem withScript_reads (s : State) (es : List Event) : (s.withScript es).reads = s.reads := rfl
@[simp] theorem withScript_draws (s : State) (es : List Event) : (s.withScript es).draws = s.draws := rfl
@[simp] theorem withScript_script (s : State) (es : List Event) : (s.withScript es).script = es := rfl

/-! ## powerOnReset -/

@[simp] theorem powerOnReset_state (s : State) : (powerOnReset s).state = .idle := rfl
@[simp] theorem powerOnReset_outcome (s : State) : (powerOnReset s).outcome = .none := rfl
@[simp] theorem powerOnReset_reason (s : State) : (powerOnReset s).reason = .none := rfl
@[simp] theorem powerOnReset_err (s : State) : (powerOnReset s).err = .none := rfl
@[simp] theorem powerOnReset_acc (s : State) : (powerOnReset s).acc = 0#16 := rfl
@[simp] theorem powerOnReset_len (s : State) : (powerOnReset s).len = 0#32 := rfl
@[simp] theorem powerOnReset_nameLen (s : State) : (powerOnReset s).nameLen = 0#8 := rfl
@[simp] theorem powerOnReset_fbIdx (s : State) : (powerOnReset s).fbIdx = 0#32 := rfl
@[simp] theorem powerOnReset_chkRes (s : State) : (powerOnReset s).chkRes = 0#32 := rfl
@[simp] theorem powerOnReset_blkIdx (s : State) : (powerOnReset s).blkIdx = 0#32 := rfl
@[simp] theorem powerOnReset_seq (s : State) : (powerOnReset s).seq = 0#8 := rfl
@[simp] theorem powerOnReset_acked (s : State) : (powerOnReset s).acked = 0#32 := rfl
@[simp] theorem powerOnReset_totBlk (s : State) : (powerOnReset s).totBlk = 0#32 := rfl
@[simp] theorem powerOnReset_failBlk (s : State) : (powerOnReset s).failBlk = 0#32 := rfl
@[simp] theorem powerOnReset_elapsed (s : State) : (powerOnReset s).elapsed = 0#32 := rfl
@[simp] theorem powerOnReset_progCnt (s : State) : (powerOnReset s).progCnt = 0#32 := rfl
@[simp] theorem powerOnReset_params (s : State) : (powerOnReset s).params = s.params := rfl
@[simp] theorem powerOnReset_mem (s : State) : (powerOnReset s).mem = [] := rfl
@[simp] theorem powerOnReset_chan (s : State) : (powerOnReset s).chan = s.chan := rfl
@[simp] theorem powerOnReset_wire (s : State) : (powerOnReset s).wire = s.wire := rfl
@[simp] theorem powerOnReset_progress (s : State) : (powerOnReset s).progress = s.progress := rfl
@[simp] theorem powerOnReset_reads (s : State) : (powerOnReset s).reads = s.reads := rfl
@[simp] theorem powerOnReset_draws (s : State) : (powerOnReset s).draws = s.draws := rfl
@[simp] theorem powerOnReset_script (s : State) : (powerOnReset s).script = s.script := rfl

/-! ## countBlock -/

@[simp] theorem countBlock_state (s : State) : (countBlock s).state = s.state := rfl
@[simp] theorem countBlock_outcome (s : State) : (countBlock s).outcome = s.outcome := rfl
@[simp] theorem countBlock_reason (s : State) : (countBlock s).reason = s.reason := rfl
@[simp] theorem countBlock_err (s : State) : (countBlock s).err = s.err := rfl
@[simp] theorem countBlock_acc (s : State) : (countBlock s).acc = s.acc := rfl
@[simp] theorem countBlock_len (s : State) : (countBlock s).len = s.len := rfl
@[simp] theorem countBlock_nameLen (s : State) : (countBlock s).nameLen = s.nameLen := rfl
@[simp] theorem countBlock_fbIdx (s : State) : (countBlock s).fbIdx = s.fbIdx := rfl
@[simp] theorem countBlock_chkRes (s : State) : (countBlock s).chkRes = s.chkRes := rfl
@[simp] theorem countBlock_blkIdx (s : State) : (countBlock s).blkIdx = s.blkIdx := rfl
@[simp] theorem countBlock_seq (s : State) : (countBlock s).seq = s.seq := rfl
@[simp] theorem countBlock_acked (s : State) : (countBlock s).acked = ackedBytes s := rfl
@[simp] theorem countBlock_totBlk (s : State) : (countBlock s).totBlk = s.totBlk := rfl
@[simp] theorem countBlock_failBlk (s : State) : (countBlock s).failBlk = s.failBlk := rfl
@[simp] theorem countBlock_elapsed (s : State) : (countBlock s).elapsed = s.elapsed := rfl
@[simp] theorem countBlock_progCnt (s : State) : (countBlock s).progCnt = s.progCnt + 1#32 := rfl
@[simp] theorem countBlock_params (s : State) : (countBlock s).params = s.params := rfl
@[simp] theorem countBlock_mem (s : State) : (countBlock s).mem = s.mem := rfl
@[simp] theorem countBlock_chan (s : State) : (countBlock s).chan = s.chan := rfl
@[simp] theorem countBlock_wire (s : State) : (countBlock s).wire = s.wire := rfl
@[simp] theorem countBlock_progress (s : State) : (countBlock s).progress = s.progress ++ [⟨0, nameReference s, s.len, ackedBytes s⟩] := rfl
@[simp] theorem countBlock_reads (s : State) : (countBlock s).reads = s.reads := rfl
@[simp] theorem countBlock_draws (s : State) : (countBlock s).draws = s.draws := rfl
@[simp] theorem countBlock_script (s : State) : (countBlock s).script = s.script := rfl

/-! ## nextBlock -/

@[simp] theorem nextBlock_state (s : State) : (nextBlock s).state = .sendData := rfl
@[simp] theorem nextBlock_outcome (s : State) : (nextBlock s).outcome = s.outcome := rfl
@[simp] theorem nextBlock_reason (s : State) : (nextBlock s).reason = s.reason := rfl
@[simp] theorem nextBlock_err (s : State) : (nextBlock s).err = s.err := rfl
@[simp] theorem nextBlock_acc (s : State) : (nextBlock s).acc = s.acc := rfl
@[simp] theorem nextBlock_len (s : State) : (nextBlock s).len = s.len := rfl
@[simp] theorem nextBlock_nameLen (s : State) : (nextBlock s).nameLen = s.nameLen := rfl
@[simp] theorem nextBlock_fbIdx (s : State) : (nextBlock s).fbIdx = s.fbIdx := rfl
@[simp] theorem nextBlock_chkRes (s : State) : (nextBlock s).chkRes = s.chkRes := rfl
@[simp] theorem nextBlock_blkIdx (s : State) : (nextBlock s).blkIdx = s.blkIdx + 1#32 := rfl
@[simp] theorem nextBlock_seq (s : State) : (nextBlock s).seq = s.seq + 1#8 := rfl
@[simp] theorem nextBlock_acked (s : State) : (nextBlock s).acked = s.acked := rfl
@[simp] theorem nextBlock_totBlk (s : State) : (nextBlock s).totBlk = s.totBlk := rfl
@[simp] theorem nextBlock_failBlk (s : State) : (nextBlock s).failBlk = s.failBlk := rfl
@[simp] theorem nextBlock_elapsed (s : State) : (nextBlock s).elapsed = s.elapsed := rfl
@[simp] theorem nextBlock_progCnt (s : State) : (nextBlock s).progCnt = s.progCnt := rfl
@[simp] theorem nextBlock_params (s : State) : (nextBlock s).params = s.params := rfl
@[simp] theorem nextBlock_mem (s : State) : (nextBlock s).mem = s.mem := rfl
@[simp] theorem nextBlock_chan (s : State) : (nextBlock s).chan = s.chan := rfl
@[simp] theorem nextBlock_wire (s : State) : (nextBlock s).wire = s.wire := rfl
@[simp] theorem nextBlock_progress (s : State) : (nextBlock s).progress = s.progress := rfl
@[simp] theorem nextBlock_reads (s : State) : (nextBlock s).reads = s.reads := rfl
@[simp] theorem nextBlock_draws (s : State) : (nextBlock s).draws = s.draws := rfl
@[simp] theorem nextBlock_script (s : State) : (nextBlock s).script = s.script := rfl

/-! ## raiseCmdError -/

@[simp] theorem raiseCmdError_state (c : CmdError) (s : State) : (raiseCmdError c s).state = s.state := by
  unfold raiseCmdError; split <;> rfl
@[simp] theorem raiseCmdError_outcome (c : CmdError) (s : State) : (raiseCmdError c s).outcome = s.outcome := by
  unfold raiseCmdError; split <;> rfl
@[simp] theorem raiseCmdError_reason (c : CmdError) (s : State) : (raiseCmdError c s).reason = s.reason := by
  unfold raiseCmdError; split <;> rfl
@[simp] theorem raiseCmdError_err (c : CmdError) (s : State) :
    (raiseCmdError c s).err = if s.err = .none then c else s.err := by
  unfold raiseCmdError; split <;> simp_all
@[simp] theorem raiseCmdError_acc (c : CmdError) (s : State) : (raiseCmdError c s).acc = s.acc := by
  unfold raiseCmdError; split <;> rfl
@[simp] theorem raiseCmdError_len (c : CmdError) (s : State) : (raiseCmdError c s).len = s.len := by
  unfold raiseCmdError; split <;> rfl
@[simp] theorem raiseCmdError_nameLen (c : CmdError) (s : State) : (raiseCmdError c s).nameLen = s.nameLen := by
  unfold raiseCmdError; split <;> rfl
@[simp] theorem raiseCmdError_fbIdx (c : CmdError) (s : State) : (raiseCmdError c s).fbIdx = s.fbIdx := by
  unfold raiseCmdError; split <;> rfl
@[simp] theorem raiseCmdError_chkRes (c : CmdError) (s : State) : (raiseCmdError c s).chkRes = s.chkRes := by
  unfold raiseCmdError; split <;> rfl
@[simp] theorem raiseCmdError_blkIdx (c : CmdError) (s : State) : (raiseCmdError c s).blkIdx = s.blkIdx := by
  unfold raiseCmdError; split <;> rfl
@[simp] theorem raiseCmdError_seq (c : CmdError) (s : State) : (raiseCmdError c s).seq = s.seq := by
  unfold raiseCmdError; split <;> rfl
@[simp] theorem raiseCmdError_acked (c : CmdError) (s : State) : (raiseCmdError c s).acked = s.acked := by
  unfold raiseCmdError; split <;> rfl
@[simp] theorem raiseCmdError_totBlk (c : CmdError) (s : State) : (raiseCmdError c s).totBlk = s.totBlk := by
  unfold raiseCmdError; split <;> rfl
@[simp] theorem raiseCmdError_failBlk (c : CmdError) (s : State) : (raiseCmdError c s).failBlk = s.failBlk := by
  unfold raiseCmdError; split <;> rfl
@[simp] theorem raiseCmdError_elapsed (c : CmdError) (s : State) : (raiseCmdError c s).elapsed = s.elapsed := by
  unfold raiseCmdError; split <;> rfl
@[simp] theorem raiseCmdError_progCnt (c : CmdError) (s : State) : (raiseCmdError c s).progCnt = s.progCnt := by
  unfold raiseCmdError; split <;> rfl
@[simp] theorem raiseCmdError_params (c : CmdError) (s : State) : (raiseCmdError c s).params = s.params := by
  unfold raiseCmdError; split <;> rfl
@[simp] theorem raiseCmdError_mem (c : CmdError) (s : State) : (raiseCmdError c s).mem = s.mem := by
  unfold raiseCmdError; split <;> rfl
@[simp] theorem raiseCmdError_chan (c : CmdError) (s : State) : (raiseCmdError c s).chan = s.chan := by
  unfold raiseCmdError; split <;> rfl
@[simp] theorem raiseCmdError_wire (c : CmdError) (s : State) : (raiseCmdError c s).wire = s.wire := by
  unfold raiseCmdError; split <;> rfl
@[simp] theorem raiseCmdError_progress (c : CmdError) (s : State) : (raiseCmdError c s).progress = s.progress := by
  unfold raiseCmdError; split <;> rfl
@[simp] theorem raiseCmdError_reads (c : CmdError) (s : State) : (raiseCmdError c s).reads = s.reads := by
  unfold raiseCmdError; split <;> rfl
@[simp] theorem raiseCmdError_draws (c : CmdError) (s : State) : (raiseCmdError c s).draws = s.draws := by
  unfold raiseCmdError; split <;> rfl
@[simp] theorem raiseCmdError_script (c : CmdError) (s : State) : (raiseCmdError c s).script = s.script := by
  unfold raiseCmdError; split <;> rfl

end Sys2Proof.Machine
end

