-- ==== Sys2Proof/Laws/Steps.lean ====
section
/-! SUPPORT. What each shared operation and each step can do, said once: if it answers next t, then one of these cases holds. -/

namespace Sys2Proof.Machine

open Sys2Proof.Config

/-! ## The step -/

theorem step_next {s t : State} (h : step s = .next t) :
    ∃ e rest, s.script = e :: rest ∧ runEvent e (s.withScript rest) = .next t := by
  unfold step at h
  split at h
  · simp at h
  · rename_i e rest hs
    exact ⟨e, rest, hs, h⟩

theorem step_cons {s : State} {e : Event} {rest : List Event} (h : s.script = e :: rest) :
    step s = runEvent e (s.withScript rest) := by simp [step, h]

@[simp] theorem withScript_busy (s : State) (es : List Event) : (s.withScript es).busy = s.busy := rfl

/-! ## The busy lockout and the command errors -/

theorem unlessBusy_of_busy {s : State} (act) (h : s.busy = true) :
    unlessBusy s act = .next (raiseCmdError .busy s) := by simp [unlessBusy, h]

theorem unlessBusy_of_idle {s : State} (act) (h : s.busy = false) : unlessBusy s act = act := by
  simp [unlessBusy, h]

theorem unlessBusy_next {s t : State} {act} (h : unlessBusy s act = .next t) :
    (s.busy = true ∧ t = raiseCmdError .busy s) ∨ (s.busy = false ∧ act = .next t) := by
  unfold unlessBusy at h
  split at h
  · exact .inl ⟨‹_›, by simpa using h.symm⟩
  · rename_i hb
    exact .inr ⟨by simpa using hb, h⟩

theorem busy_iff_code (st : SessionState) : st.busy = true ↔ 1 ≤ st.code.toNat ∧ st.code.toNat ≤ 12 := by
  cases st <;> decide

theorem busy_false_iff (s : State) : s.busy = false ↔ s.state = .idle ∨ s.state = .failed ∨ s.state = .succeeded := by
  unfold State.busy
  cases s.state <;> simp [SessionState.busy]

theorem roleOf_rest_iff (st : SessionState) : roleOf st = .rest ↔ st.busy = false := by
  cases st <;> simp [roleOf, SessionState.busy]

/-! ## Payloads and frames -/

theorem padBlock_length {x : Byte} {bs : List Byte} (h : bs.length ≤ 128) : (padBlock x bs).length = 128 := by
  simp only [padBlock, blockSize, List.length_append, List.length_replicate]
  omega

theorem decimalDigits_length (fuel v : Nat) (done : List Byte) :
    (decimalDigits fuel v done).length ≤ done.length + fuel := by
  induction fuel generalizing v done with
  | zero => simp [decimalDigits]
  | succ fuel ih =>
    simp only [decimalDigits]
    split
    · simp
    · have := ih (v / 10) (BitVec.ofNat 8 (0x30 + v % 10) :: done)
      simp only [List.length_cons] at this
      omega

theorem decimal_length (v : Word) : (decimal v).length ≤ 10 := by
  simpa [decimal] using decimalDigits_length 10 v.toNat []

theorem nameUsed_le (s : State) : nameUsed s ≤ 64 := by simp [nameUsed, nameMax]

theorem headerText_length {name : List Byte} {len : Word} (h : name.length ≤ 64) :
    (headerText name len).length = 128 := by
  have := decimal_length len
  exact padBlock_length (by simp; omega)

theorem headerPayload_ok {s : State} {p : List Byte} (h : headerPayload s = .ok p) :
    ∃ name, nameBytes s = .ok name ∧ p = headerText name s.len := by
  unfold headerPayload at h
  split at h
  · exact ⟨_, ‹_›, by simpa using h.symm⟩
  · simp at h

theorem headerPayload_length {s : State} {p : List Byte} (h : headerPayload s = .ok p) : p.length = 128 := by
  obtain ⟨name, hn, rfl⟩ := headerPayload_ok h
  have hl := Memory.readRange_length hn
  exact headerText_length (by rw [hl]; exact nameUsed_le s)

theorem dataPayload_ok {s : State} {n : Nat} {p : List Byte} (h : dataPayload s n = .ok p) :
    ∃ bs, payloadSlice s n = .ok bs ∧ p = padBlock dataPad bs := by
  unfold dataPayload at h
  split at h
  · exact ⟨_, ‹_›, by simpa using h.symm⟩
  · simp at h

theorem slice_le (s : State) {n : Nat} (h : 1 ≤ n) : sliceEnd s n - sliceStart n ≤ 128 := by
  simp only [sliceEnd, sliceStart, blockSize]
  omega

theorem dataPayload_length {s : State} {n : Nat} {p : List Byte} (hn : 1 ≤ n) (h : dataPayload s n = .ok p) :
    p.length = 128 := by
  obtain ⟨bs, hb, rfl⟩ := dataPayload_ok h
  exact padBlock_length (by rw [Memory.readRange_length hb]; exact slice_le s hn)

@[simp] theorem endPayload_length : endPayload.length = 128 := by simp [endPayload, blockSize]

theorem frame_length (num : Byte) {p : List Byte} (h : p.length = 128) : (frame num p).length = 133 := by
  simp [frame, h]

/-! ## The commands -/

theorem bit_or_word (a b c d : Bool) :
    ((bit a <<< 4) ||| (bit b <<< 3) ||| (bit c <<< 2) ||| (bit d <<< 1) ||| bit (d && c && b)).toNat < 32 := by
  cases a <;> cases b <;> cases c <;> cases d <;> decide

/-- What an accepted command leaves (R123, R124, R146 to R149, R170 to R172). -/
theorem exec_next {i : Instr} {s t : State} (h : exec i s = .next t) :
    (errorOf s i ≠ .none ∧ t = raiseCmdError (errorOf s i) s) ∨
    (errorOf s i = .none ∧
      ((i = .nop ∧ t = s) ∨
       ((i = .crcInit ∨ ∃ b, i = .crcByte b) ∧ ∃ x, t = { s with acc := x }) ∨
       ((i = .frameHdr ∨ i = .frameData ∨ i = .frameEnd) ∧ s.busy = false ∧ ∃ f, f.length = 133 ∧ t = storeFrame f s) ∨
       (i = .frameCheck ∧ s.busy = false ∧ ∃ f, t = { s with chkRes := checkFrame f s.fbIdx }) ∨
       (i = .start ∧ s.busy = false ∧ s.len ≤ s.params.payloadMax ∧ t = beginSession s) ∨
       (i = .clear ∧ s.busy = false ∧ t = clearReturn s))) := by
  cases i with
  | nop => exact .inr ⟨rfl, .inl ⟨rfl, by simpa [exec, execNop] using h.symm⟩⟩
  | crcInit => exact .inr ⟨rfl, .inr (.inl ⟨.inl rfl, _, by simpa [exec, execCrcInit] using h.symm⟩)⟩
  | crcByte b => exact .inr ⟨rfl, .inr (.inl ⟨.inr ⟨b, rfl⟩, _, by simpa [exec, execCrcByte] using h.symm⟩)⟩
  | frameHdr =>
    rcases unlessBusy_next h with ⟨hb, rfl⟩ | ⟨hb, h⟩
    · exact .inl (by simp [errorOf, hb])
    · split at h
      · rename_i p hp
        refine .inr ⟨by simp [errorOf, hb], .inr (.inr (.inl ⟨.inl rfl, hb, _, ?_, by simpa using h.symm⟩))⟩
        exact frame_length _ (headerPayload_length hp)
      · simp at h
  | frameData =>
    rcases unlessBusy_next h with ⟨hb, rfl⟩ | ⟨hb, h⟩
    · exact .inl (by simp [errorOf, hb])
    · split at h
      · exact .inl (by simp_all [errorOf])
      · split at h
        · rename_i hl h0
          simp only [Host.Outcome.next.injEq] at h
          exact .inl (by simp [errorOf, hb, hl, h0, h.symm])
        · rename_i hl hn
          split at h
          · rename_i p hp
            refine .inr ⟨by simp [errorOf, hb, hl, hn], .inr (.inr (.inl ⟨.inr (.inl rfl), hb, _, ?_, by simpa using h.symm⟩))⟩
            refine frame_length _ (dataPayload_length ?_ hp)
            rcases Nat.eq_zero_or_pos s.fbIdx.toNat with h0 | h0
            · exact absurd (BitVec.eq_of_toNat_eq (by simpa using h0)) hn
            · exact h0
          · simp at h
  | frameEnd =>
    rcases unlessBusy_next h with ⟨hb, rfl⟩ | ⟨hb, h⟩
    · exact .inl (by simp [errorOf, hb])
    · refine .inr ⟨by simp [errorOf, hb], .inr (.inr (.inl ⟨.inr (.inr rfl), hb, _, ?_, by simpa using h.symm⟩))⟩
      exact frame_length _ endPayload_length
  | frameCheck =>
    rcases unlessBusy_next h with ⟨hb, rfl⟩ | ⟨hb, h⟩
    · exact .inl (by simp [errorOf, hb])
    · split at h
      · exact .inr ⟨by simp [errorOf, hb], .inr (.inr (.inr (.inl ⟨rfl, hb, _, by simpa using h.symm⟩)))⟩
      · simp at h
  | start =>
    rcases unlessBusy_next h with ⟨hb, rfl⟩ | ⟨hb, h⟩
    · exact .inl (by simp [errorOf, hb])
    · split at h
      · exact .inl (by simp_all [errorOf])
      · rename_i hl
        exact .inr ⟨by simp [errorOf, hb, hl],
          .inr (.inr (.inr (.inr (.inl ⟨rfl, hb, BitVec.not_lt.1 hl, by simpa using h.symm⟩))))⟩
  | clear =>
    rcases unlessBusy_next h with ⟨hb, rfl⟩ | ⟨hb, h⟩
    · exact .inl (by simp [errorOf, hb])
    · exact .inr ⟨by simp [errorOf, hb], .inr (.inr (.inr (.inr (.inr ⟨rfl, hb, by simpa using h.symm⟩))))⟩

/-! ## The host bus -/

@[simp] theorem inName_iff (a : Nat) : inName a = true ↔ 0x100 ≤ a ∧ a < 0x140 := by
  simp only [inName, Bool.and_eq_true, decide_eq_true_eq]
  rfl

@[simp] theorem inFrame_iff (a : Nat) : inFrame a = true ↔ 0x200 ≤ a ∧ a < 0x285 := by
  simp only [inFrame, Bool.and_eq_true, decide_eq_true_eq]
  rfl

@[simp] theorem inPayload_iff (p : Params) (a : Nat) :
    inPayload p a = true ↔ 0x10000 ≤ a ∧ a < 0x10000 + p.payloadMax.toNat := by
  simp only [inPayload, Bool.and_eq_true, decide_eq_true_eq]
  rfl

/-- The buffers' addresses (R61). -/
theorem isBuffer_iff (p : Params) (a : Nat) :
    isBuffer p a = true ↔ (0x100 ≤ a ∧ a < 0x140) ∨ (0x200 ≤ a ∧ a < 0x285) ∨
      (0x10000 ≤ a ∧ a < 0x10000 + p.payloadMax.toNat) := by
  simp only [isBuffer, Bool.or_eq_true, inName_iff, inFrame_iff, inPayload_iff, or_assoc]

theorem regAt_none {a : Nat} (h : 0x00E < a) : regAt a = none := by
  unfold regAt
  split <;> first | rfl | omega

theorem regAt_none_of_isBuffer {p : Params} {a : Nat} (h : isBuffer p a = true) : regAt a = none :=
  regAt_none (by rw [isBuffer_iff] at h; omega)

/-- A host read: the record of read words and the free-value counter move, nothing else (R67). -/
theorem hostRead_eq (a : Word) (s : State) :
    (∃ v, readWord a.toNat s = some v ∧ hostRead a s = { s with reads := s.reads ++ [v] }) ∨
    (readWord a.toNat s = none ∧
      hostRead a s = { s with reads := s.reads ++ [(freeByte s.draws).setWidth 32], draws := s.draws + 1 }) := by
  unfold hostRead
  cases h : readWord a.toNat s with
  | some v => exact .inl ⟨v, rfl, rfl⟩
  | none => exact .inr ⟨rfl, rfl⟩

theorem regAt_cmd {a : Nat} (h : regAt a = some .cmd) : a = 0 := by
  unfold regAt at h
  split at h <;> first | rfl | simp at h

/-- What a host write can do (R62 to R66, R92, R93). -/
theorem hostWrite_next {a w : Word} {s t : State} (h : hostWrite a w s = .next t) :
    (t = s) ∨ (∃ c, t = raiseCmdError c s) ∨
    (s.busy = false ∧ ((∃ x, t = { s with len := x }) ∨ (∃ x, t = { s with nameLen := x }) ∨ (∃ x, t = { s with fbIdx := x }) ∨
      (isBuffer s.params a.toNat = true ∧ t = { s with mem := s.mem.write a.toNat (w.setWidth 8) }))) ∨
    (a = 0#32 ∧ ∃ i, decode w = .ok i ∧ exec i s = .next t) := by
  unfold hostWrite at h
  split at h
  · rename_i r hr
    cases r
    case cmd =>
      have ha : a = 0#32 := BitVec.eq_of_toNat_eq (by simpa using regAt_cmd hr)
      simp only [writeReg, writeCmd] at h
      split at h
      · exact .inr (.inr (.inr ⟨ha, _, ‹_›, h⟩))
      · exact .inr (.inl ⟨_, by simpa using h.symm⟩)
    case len =>
      rcases unlessBusy_next h with ⟨-, rfl⟩ | ⟨hb, h⟩
      · exact .inr (.inl ⟨_, rfl⟩)
      · exact .inr (.inr (.inl ⟨hb, .inl ⟨_, by simpa using h.symm⟩⟩))
    case nameLen =>
      rcases unlessBusy_next h with ⟨-, rfl⟩ | ⟨hb, h⟩
      · exact .inr (.inl ⟨_, rfl⟩)
      · exact .inr (.inr (.inl ⟨hb, .inr (.inl ⟨_, by simpa using h.symm⟩)⟩))
    case fbIdx =>
      rcases unlessBusy_next h with ⟨-, rfl⟩ | ⟨hb, h⟩
      · exact .inr (.inl ⟨_, rfl⟩)
      · exact .inr (.inr (.inl ⟨hb, .inr (.inr (.inl ⟨_, by simpa using h.symm⟩))⟩))
    all_goals exact .inl (by simpa [writeReg] using h.symm)
  · split at h
    · rename_i hbuf
      rcases unlessBusy_next h with ⟨-, rfl⟩ | ⟨hb, h⟩
      · exact .inr (.inl ⟨_, rfl⟩)
      · exact .inr (.inr (.inl ⟨hb, .inr (.inr (.inr ⟨hbuf, by simpa using h.symm⟩))⟩))
    · exact .inl (by simpa using h.symm)

/-! ## The engine and the tick -/

/-- What the engine's turn can do (R180, R193, R214, R245). -/
theorem engineTurn_next {ans : ChAnswer} {s t : State} (h : engineTurn ans s = .next t) :
    (t = s) ∨
    (roleOf s.state = .send ∧ ∃ bs, bytesToSend s = .ok bs ∧
      ((ans = .ok ∧ t = afterWriteOk (recordTxn (.wrote bs true) s)) ∨
       (ans = .err ∧ t = afterWriteErr (recordTxn (.wrote bs false) s)))) ∨
    (∃ e cls, roleOf s.state = .wait e cls ∧
      ((ans = .err ∧ t = sessionFail .channelClosed (recordTxn .readErr s)) ∨
       (ans = .ok ∧ ∃ b rest, s.chan = b :: rest ∧ t = onByte e b (recordTxn (.got b) { s with chan := rest })))) := by
  unfold engineTurn at h
  split at h
  · exact .inl (by simpa using h.symm)
  · rename_i hr
    cases ans with
    | silent => exact .inl (by simpa [sendTurn] using h.symm)
    | ok =>
      simp only [sendTurn] at h
      split at h
      · exact .inr (.inl ⟨hr, _, ‹_›, .inl ⟨rfl, by simpa using h.symm⟩⟩)
      · simp at h
    | err =>
      simp only [sendTurn] at h
      split at h
      · exact .inr (.inl ⟨hr, _, ‹_›, .inr ⟨rfl, by simpa using h.symm⟩⟩)
      · simp at h
  · rename_i e cls hr
    cases ans with
    | silent => exact .inl (by simpa [waitTurn] using h.symm)
    | err => exact .inr (.inr ⟨e, cls, hr, .inl ⟨rfl, by simpa [waitTurn] using h.symm⟩⟩)
    | ok =>
      simp only [waitTurn, Host.Outcome.next.injEq] at h
      split at h
      · exact .inl h.symm
      · exact .inr (.inr ⟨e, cls, hr, .inr ⟨rfl, _, _, ‹_›, h.symm⟩⟩)

/-- What a tick can do (R212, R213). -/
theorem tickTurn_cases (s : State) :
    (tickTurn s = s ∧ ∀ e cls, roleOf s.state ≠ .wait e cls) ∨
    (∃ e cls, roleOf s.state = .wait e cls ∧
      ((cls.ticks s.params ≤ (s.elapsed + 1#32).toNat ∧ tickTurn s = onMiss (advanceElapsed s)) ∨
       ((s.elapsed + 1#32).toNat < cls.ticks s.params ∧ tickTurn s = advanceElapsed s))) := by
  unfold tickTurn
  cases hr : roleOf s.state with
  | rest => exact .inl ⟨rfl, by simp⟩
  | send => exact .inl ⟨rfl, by simp⟩
  | wait e cls =>
    refine .inr ⟨e, cls, rfl, ?_⟩
    simp only [advanceElapsed_elapsed]
    by_cases hc : cls.ticks s.params ≤ (s.elapsed + 1#32).toNat
    · exact .inl ⟨hc, if_pos hc⟩
    · exact .inr ⟨by omega, if_neg hc⟩

/-! ## What the session leaves alone -/

/-- `t` has the host's side of `s`: what no engine step and no tick writes (R51, R126, R41). -/
structure SameHostSide (s t : State) : Prop where
  err : t.err = s.err
  acc : t.acc = s.acc
  len : t.len = s.len
  nameLen : t.nameLen = s.nameLen
  fbIdx : t.fbIdx = s.fbIdx
  chkRes : t.chkRes = s.chkRes
  totBlk : t.totBlk = s.totBlk
  params : t.params = s.params
  mem : t.mem = s.mem
  reads : t.reads = s.reads
  draws : t.draws = s.draws
  script : t.script = s.script

theorem SameHostSide.refl (s : State) : SameHostSide s s := ⟨rfl, rfl, rfl, rfl, rfl, rfl, rfl, rfl, rfl, rfl, rfl, rfl⟩

theorem sessionFail_sameHostSide (r : FailReason) (s : State) : SameHostSide s (sessionFail r s) :=
  ⟨rfl, rfl, rfl, rfl, rfl, rfl, rfl, rfl, rfl, rfl, rfl, rfl⟩

theorem dataBlockAcked_sameHostSide (s : State) : SameHostSide s (dataBlockAcked s) := by
  unfold dataBlockAcked
  split <;> exact ⟨rfl, rfl, rfl, rfl, rfl, rfl, rfl, rfl, rfl, rfl, rfl, rfl⟩

theorem onMatch_sameHostSide (s : State) : SameHostSide s (onMatch s) := by
  unfold onMatch
  split
  all_goals first
    | exact dataBlockAcked_sameHostSide s
    | (split <;> exact ⟨rfl, rfl, rfl, rfl, rfl, rfl, rfl, rfl, rfl, rfl, rfl, rfl⟩)
    | exact ⟨rfl, rfl, rfl, rfl, rfl, rfl, rfl, rfl, rfl, rfl, rfl, rfl⟩

theorem onMiss_sameHostSide (s : State) : SameHostSide s (onMiss s) := by
  unfold onMiss
  split <;> exact ⟨rfl, rfl, rfl, rfl, rfl, rfl, rfl, rfl, rfl, rfl, rfl, rfl⟩

theorem onByte_sameHostSide (e b : Byte) (s : State) : SameHostSide s (onByte e b s) := by
  unfold onByte
  split
  · exact onMatch_sameHostSide s
  · exact onMiss_sameHostSide s

theorem afterWriteOk_sameHostSide (s : State) : SameHostSide s (afterWriteOk s) := by
  unfold afterWriteOk
  split <;> exact ⟨rfl, rfl, rfl, rfl, rfl, rfl, rfl, rfl, rfl, rfl, rfl, rfl⟩

theorem afterWriteErr_sameHostSide (s : State) : SameHostSide s (afterWriteErr s) := by
  unfold afterWriteErr
  split <;> exact ⟨rfl, rfl, rfl, rfl, rfl, rfl, rfl, rfl, rfl, rfl, rfl, rfl⟩

theorem SameHostSide.trans {s t u : State} (h : SameHostSide s t) (k : SameHostSide t u) : SameHostSide s u :=
  ⟨k.err.trans h.err, k.acc.trans h.acc, k.len.trans h.len, k.nameLen.trans h.nameLen, k.fbIdx.trans h.fbIdx,
   k.chkRes.trans h.chkRes, k.totBlk.trans h.totBlk, k.params.trans h.params, k.mem.trans h.mem,
   k.reads.trans h.reads, k.draws.trans h.draws, k.script.trans h.script⟩

theorem recordTxn_sameHostSide (x : ChTxn) (s : State) : SameHostSide s (recordTxn x s) :=
  ⟨rfl, rfl, rfl, rfl, rfl, rfl, rfl, rfl, rfl, rfl, rfl, rfl⟩

/-- No engine turn writes the host's side. -/
theorem engineTurn_sameHostSide {ans : ChAnswer} {s t : State} (h : engineTurn ans s = .next t) : SameHostSide s t := by
  rcases engineTurn_next h with rfl | ⟨-, bs, -, ⟨-, rfl⟩ | ⟨-, rfl⟩⟩ | ⟨e, cls, -, ⟨-, rfl⟩ | ⟨-, b, rest, -, rfl⟩⟩
  · exact .refl _
  · exact (recordTxn_sameHostSide _ _).trans (afterWriteOk_sameHostSide _)
  · exact (recordTxn_sameHostSide _ _).trans (afterWriteErr_sameHostSide _)
  · exact (recordTxn_sameHostSide _ _).trans (sessionFail_sameHostSide _ _)
  · refine SameHostSide.trans ?_ (onByte_sameHostSide _ _ _)
    exact ⟨rfl, rfl, rfl, rfl, rfl, rfl, rfl, rfl, rfl, rfl, rfl, rfl⟩

/-- No tick writes the host's side. -/
theorem tickTurn_sameHostSide (s : State) : SameHostSide s (tickTurn s) := by
  rcases tickTurn_cases s with ⟨h, -⟩ | ⟨e, cls, -, ⟨-, h⟩ | ⟨-, h⟩⟩ <;> rw [h]
  · exact .refl s
  · refine SameHostSide.trans ?_ (onMiss_sameHostSide _)
    exact ⟨rfl, rfl, rfl, rfl, rfl, rfl, rfl, rfl, rfl, rfl, rfl, rfl⟩
  · exact ⟨rfl, rfl, rfl, rfl, rfl, rfl, rfl, rfl, rfl, rfl, rfl, rfl⟩

/-! ## The channel and the wire -/

theorem dataBlockAcked_wire (s : State) : (dataBlockAcked s).wire = s.wire ∧ (dataBlockAcked s).chan = s.chan := by
  unfold dataBlockAcked
  split <;> exact ⟨rfl, rfl⟩

theorem onMatch_wire (s : State) : (onMatch s).wire = s.wire ∧ (onMatch s).chan = s.chan := by
  unfold onMatch
  split
  all_goals first
    | exact dataBlockAcked_wire s
    | (split <;> exact ⟨rfl, rfl⟩)
    | exact ⟨rfl, rfl⟩

theorem onMiss_wire (s : State) : (onMiss s).wire = s.wire ∧ (onMiss s).chan = s.chan := by
  unfold onMiss
  split <;> exact ⟨rfl, rfl⟩

theorem onByte_wire (e b : Byte) (s : State) : (onByte e b s).wire = s.wire ∧ (onByte e b s).chan = s.chan := by
  unfold onByte
  split
  · exact onMatch_wire s
  · exact onMiss_wire s

theorem afterWriteOk_wire (s : State) : (afterWriteOk s).wire = s.wire ∧ (afterWriteOk s).chan = s.chan := by
  unfold afterWriteOk
  split <;> exact ⟨rfl, rfl⟩

theorem afterWriteErr_wire (s : State) : (afterWriteErr s).wire = s.wire ∧ (afterWriteErr s).chan = s.chan := by
  unfold afterWriteErr
  split <;> exact ⟨rfl, rfl⟩

/-- A tick is no channel transaction. -/
theorem tickTurn_wire (s : State) : (tickTurn s).wire = s.wire ∧ (tickTurn s).chan = s.chan := by
  rcases tickTurn_cases s with ⟨h, -⟩ | ⟨e, cls, -, ⟨-, h⟩ | ⟨-, h⟩⟩ <;> rw [h]
  · exact ⟨rfl, rfl⟩
  · exact onMiss_wire _
  · exact ⟨rfl, rfl⟩

/-! ## Every step -/

/-- What a step can do, by the agent that takes it (R8, R80). -/
theorem step_cases {s t : State} {e : Event} {rest : List Event} (hs : s.script = e :: rest) (h : step s = .next t) :
    (∃ a, e = .hostRead a ∧ t = hostRead a (s.withScript rest)) ∨
    (∃ a w, e = .hostWrite a w ∧ hostWrite a w (s.withScript rest) = .next t) ∨
    (∃ ans, e = .engine ans ∧ engineTurn ans (s.withScript rest) = .next t) ∨
    (e = .tick ∧ t = tickTurn (s.withScript rest)) ∨
    (∃ b, e = .peer b ∧ t = peerSends b (s.withScript rest)) ∨
    (e = .foreignTake ∧ s.busy = false ∧ t = { s.withScript rest with chan := s.chan.drop 1 }) ∨
    (∃ bs, e = .foreignWrite bs ∧ s.busy = false ∧ t = s.withScript rest) ∨
    (e = .reset ∧ t = warmReset (s.withScript rest)) ∨
    (e = .powerOn ∧ t = powerOnReset (s.withScript rest)) := by
  rw [step_cons hs] at h
  cases e with
  | hostRead a =>
    simp only [runEvent, Host.Outcome.next.injEq] at h
    exact .inl ⟨a, rfl, h.symm⟩
  | hostWrite a w => exact .inr (.inl ⟨a, w, rfl, h⟩)
  | engine ans => exact .inr (.inr (.inl ⟨ans, rfl, h⟩))
  | tick =>
    simp only [runEvent, Host.Outcome.next.injEq] at h
    exact .inr (.inr (.inr (.inl ⟨rfl, h.symm⟩)))
  | peer b =>
    simp only [runEvent, Host.Outcome.next.injEq] at h
    exact .inr (.inr (.inr (.inr (.inl ⟨b, rfl, h.symm⟩))))
  | foreignTake =>
    simp only [runEvent, foreignTakes] at h
    split at h <;> simp at h
    rename_i hb
    exact .inr (.inr (.inr (.inr (.inr (.inl ⟨rfl, by simpa using hb, by rw [← h]; simp⟩)))))
  | foreignWrite bs =>
    simp only [runEvent, foreignWrites] at h
    split at h <;> simp at h
    rename_i hb
    exact .inr (.inr (.inr (.inr (.inr (.inr (.inl ⟨bs, rfl, by simpa using hb, h.symm⟩))))))
  | reset =>
    simp only [runEvent, Host.Outcome.next.injEq] at h
    simp [h]
  | powerOn =>
    simp only [runEvent, Host.Outcome.next.injEq] at h
    simp [h]

/-- A host read moves the record of read words and the free-value counter, nothing else (R67). -/
theorem hostRead_record (a : Word) (s : State) : ∃ r d, hostRead a s = { s with reads := r, draws := d } := by
  rcases hostRead_eq a s with ⟨v, -, h⟩ | ⟨-, h⟩
  · exact ⟨_, s.draws, h⟩
  · exact ⟨_, _, h⟩

theorem busy_of_role {st : SessionState} (h : roleOf st ≠ .rest) : st.busy = true := by
  by_contra hc
  exact h ((roleOf_rest_iff st).2 (by simpa using hc))

end Sys2Proof.Machine
end

