-- ==== Sys2Proof/Laws/Invariant.lean ====
section
/-! SUPPORT. Lemmas about the invariant's parts: the timeouts of legal parameters, a wait that has just begun, and states that differ only in what the invariant does not name. -/

namespace Sys2Proof.Machine

open Sys2Proof.Config

/-- Legal parameters, field by field (R5, R6). -/
theorem params_wf_iff (p : Params) :
    p.wf = true ↔ p.payloadMax.toNat ≤ 0xFFFF0000 ∧ 0 < p.tInitMs ∧ p.tInitMs < 2 ^ 32 ∧ 0 < p.tAckMs ∧ p.tAckMs < 2 ^ 32 := by
  simp only [Params.wf, Params.payloadOk, Params.timeoutsOk, Bool.and_eq_true, decide_eq_true_eq, BitVec.le_def,
    payloadLimit, BitVec.toNat_ofNat, and_assoc]

theorem ticks_pos {p : Params} (h : p.wf = true) (c : WaitClass) : 0 < c.ticks p := by
  have := (params_wf_iff p).1 h
  cases c <;> simp only [WaitClass.ticks] <;> omega

theorem ticks_le (p : Params) (c : WaitClass) : c.ticks p ≤ max p.tInitMs p.tAckMs := by
  cases c <;> simp [WaitClass.ticks]

/-- A wait that has just begun is running (R37, R180). -/
theorem waitRunning_of_zero {s : State} (h : s.params.wf = true) (h0 : s.elapsed = 0#32) : waitRunning s := by
  unfold waitRunning
  split
  · trivial
  · trivial
  · rw [h0]
    exact ticks_pos h _

theorem checkFrame_chkResOk (f : List Byte) (fb : Word) : chkResOk (checkFrame f fb) := by
  unfold chkResOk checkFrame
  exact ⟨by simp only [chkResWord_reserved],
    by simp only [chkResWord_valid, chkResWord_markerOk, chkResWord_complOk, chkResWord_crcOk]⟩

/-- The invariant passes to a state with the same session, whose memory and CHKRES are in form and whose LEN is the same while busy. -/
theorem Inv.of_same_session {s t : State} (h : Inv s)
    (e1 : t.state = s.state) (e2 : t.outcome = s.outcome) (e3 : t.reason = s.reason) (e4 : t.seq = s.seq)
    (e5 : t.blkIdx = s.blkIdx) (e6 : t.acked = s.acked) (e7 : t.totBlk = s.totBlk) (e8 : t.failBlk = s.failBlk)
    (e9 : t.elapsed = s.elapsed) (e10 : t.progCnt = s.progCnt) (e11 : t.params = s.params) (e12 : t.wire = s.wire)
    (hl : s.busy = true → t.len = s.len) (hm : Memory.wf t.mem = true)
    (hmm : ∀ c ∈ t.mem, isBuffer s.params c.1 = true) (hc : chkResOk t.chkRes) : Inv t := by
  have eb : t.busy = s.busy := by simp [State.busy, e1]
  constructor
  case params_wf => rw [e11]; exact h.params_wf
  case mem_wf => exact hm
  case mem_mapped => rw [e11]; exact hmm
  case outcome_of_state => rw [e1, e2]; exact h.outcome_of_state
  case reason_iff_failed => rw [e3, e2]; exact h.reason_iff_failed
  case seq_wraps => rw [e4, e5]; exact h.seq_wraps
  case blkIdx_bound => rw [e5, e7]; exact h.blkIdx_bound
  case totBlk_bound => rw [e7]; exact h.totBlk_bound
  case idle_zero => rw [e1, e4, e5, e6, e7, e8, e9, e10]; exact h.idle_zero
  case inputs_locked => rw [eb, e7, e11]; intro hb; rw [hl hb]; exact h.inputs_locked hb
  case before_data => rw [e1, e5, e10]; exact h.before_data
  case in_data => rw [e1, e5, e10, e7]; exact h.in_data
  case after_data => rw [e1, e5, e10, e7]; exact h.after_data
  case acked_count => rw [eb, e6, e10]; intro hb; rw [hl hb]; exact h.acked_count hb
  case fail_block => rw [e3, e8, e5, e10]; exact h.fail_block
  case no_request => rw [e3, e5, e4, e6]; exact h.no_request
  case elapsed_bound => rw [e9, e11]; exact h.elapsed_bound
  case wait_running =>
    have := h.wait_running
    unfold waitRunning at *
    rw [e1, e9, e11]
    exact this
  case chkRes_form => exact hc
  case cancel_last => rw [e1, e12]; exact h.cancel_last

/-- Runs put one behind the other. -/
theorem stepMany_add {n : Nat} (m : Nat) {s t : State} (h : stepMany n s = .next t) :
    stepMany (n + m) s = stepMany m t := by
  induction n generalizing s with
  | zero =>
    simp only [stepMany, Host.Outcome.next.injEq] at h
    rw [h, Nat.zero_add]
  | succ n ih =>
    rw [Nat.succ_add]
    simp only [stepMany] at h ⊢
    cases hc : step s with
    | next u => rw [hc] at h; exact ih h
    | fault r => rw [hc] at h; simp at h
    | refused r => rw [hc] at h; simp at h

/-- A run of steps from busy states is an active run. -/
theorem ActiveRun.step_left {s t u : State} (hb : s.busy = true) (hs : step s = .next t) (h : ActiveRun t u) :
    ActiveRun s u := by
  induction h with
  | here => exact .more s s _ (.here s) hb hs
  | more v w _ hv hw ih => exact .more s v w ih hv hw

end Sys2Proof.Machine
end

