-- ==== Sys2Proof/Laws/PerInstr.lean ====
section
/-! SUPPORT. Statements made per instruction (LAWS.json). -/

namespace Sys2Proof.Laws.RowEncoding

/-- The command's word selects the opcode-table row of its own mnemonic, and no other row (30_encoding.md R92). -/
def Statement (i : Instr) : Prop :=
  ∀ r ∈ opcodeTable, (r.selects (encode i) = true ↔ r.mnemonic = i.mnemonic)

theorem nop : Statement .nop := by unfold Statement; decide +kernel
theorem crcInit : Statement .crcInit := by unfold Statement; decide +kernel
theorem crcByte (b : Byte) : Statement (.crcByte b) := by revert b; unfold Statement; decide +kernel
theorem frameHdr : Statement .frameHdr := by unfold Statement; decide +kernel
theorem frameData : Statement .frameData := by unfold Statement; decide +kernel
theorem frameEnd : Statement .frameEnd := by unfold Statement; decide +kernel
theorem frameCheck : Statement .frameCheck := by unfold Statement; decide +kernel
theorem start : Statement .start := by unfold Statement; decide +kernel
theorem clear : Statement .clear := by unfold Statement; decide +kernel

end Sys2Proof.Laws.RowEncoding
end

