-- ==== Sys2Proof/Tests/Slice0.lean ====
section
/-! SUPPORT. Tests: ill-formed terms that WellFormed refuses, words written out from 30_encoding.md R91, one-step tests with expected results from 95_test_vectors.md, and for every obligation with hypotheses a state and operands that meet them. -/

open Sys2Proof Sys2Proof.Machine Sys2Proof.Config

namespace Sys2Proof.Tests

/-! ## WellFormed refuses an ill-formed term of each kind -/

theorem test_wf_refuses_reserved_bits : CommandFields.rsvOk ⟨0x00#8, 0x00#8, 0x0001#16⟩ = false := by decide
theorem test_wf_refuses_unknown_op : CommandFields.opOk ⟨0x03#8, 0x00#8, 0x0000#16⟩ = false := by decide
theorem test_wf_refuses_arg_without_operand : CommandFields.argOk ⟨0x00#8, 0x01#8, 0x0000#16⟩ = false := by decide
theorem test_wf_fields_whole :
    CommandFields.wf ⟨0x10#8, 0x01#8, 0#16⟩ = false ∧ CommandFields.wf ⟨0x02#8, 0xFF#8, 0#16⟩ = true := by decide
theorem test_wf_refuses_payload_max : Params.payloadOk ⟨0xFFFF0001#32, 10000, 3000⟩ = false := by decide
theorem test_wf_refuses_zero_timeout :
    Params.timeoutsOk ⟨0#32, 0, 3000⟩ = false ∧ Params.timeoutsOk ⟨0#32, 10000, 2 ^ 32⟩ = false := by decide
theorem test_wf_params_bounds :
    Params.wf ⟨0xFFFF0000#32, 1, 2 ^ 32 - 1⟩ = true ∧ Params.wf ⟨0xFFFF0001#32, 1, 1⟩ = false := by decide

/-! ## Decoding: RSV[31:16], ARG[15:8], OP[7:0] written out bit by bit (R90, R91) -/

theorem test_decode_nop : decodeTableWord 32 0b00000000000000000000000000000000 = some .nop := by decide
theorem test_decode_crc_init : decodeTableWord 32 0b00000000000000000000000000000001 = some .crcInit := by decide
theorem test_decode_crc_byte :
    decodeTableWord 32 0b00000000000000001010010100000010 = some (.crcByte 0xA5#8) := by decide
theorem test_decode_frame_hdr : decodeTableWord 32 0b00000000000000000000000000001000 = some .frameHdr := by decide
theorem test_decode_frame_data : decodeTableWord 32 0b00000000000000000000000000001001 = some .frameData := by decide
theorem test_decode_frame_end : decodeTableWord 32 0b00000000000000000000000000001010 = some .frameEnd := by decide
theorem test_decode_frame_check : decodeTableWord 32 0b00000000000000000000000000001011 = some .frameCheck := by decide
theorem test_decode_start : decodeTableWord 32 0b00000000000000000000000000010000 = some .start := by decide
theorem test_decode_clear : decodeTableWord 32 0b00000000000000000000000000010001 = some .clear := by decide
theorem test_decode_refuses :
    decodeTableWord 32 0x00000110 = none ∧ decodeTableWord 32 0x00000103 = none ∧
    decodeTableWord 32 0xFFFF0000 = none ∧ decodeTableWord 32 0xFFFFFFFF = none := by decide
theorem test_encode_crc_byte : encode (.crcByte 0x31#8) = 0x00003102#32 := by decide

/-! ## Helpers -/

/-- A view of the next state, if there is one. -/
def view {α : Type} (o : Host.Outcome State Fault Refusal) (f : State → α) : Option α :=
  match o with
  | .next t => some (f t)
  | .fault _ => none
  | .refused _ => none

/-- The state after a few host transactions from reset. -/
def afterWrites (s : State) (ws : List (Nat × Nat)) : State :=
  match stepMany ws.length (s.withScript (ws.map (fun p => .hostWrite (BitVec.ofNat 32 p.1) (BitVec.ofNat 32 p.2)))) with
  | .next t => t
  | .fault _ => s
  | .refused _ => s

/-- Reset, with NAME holding `name` and LEN `len`. -/
def named (name : List Byte) (len : Word) : State :=
  { State.reset with nameLen := BitVec.ofNat 8 name.length, len := len, mem := Memory.writeRange [] 0x100 name }

/-- Reset, with PAYLOAD holding `bytes` and FBIDX `n`. -/
def loaded (bytes : List Byte) (n : Word) : State :=
  { State.reset with len := BitVec.ofNat 32 bytes.length, fbIdx := n, mem := Memory.writeRange [] 0x10000 bytes }

/-- Reset, with FRAME holding `f` and FBIDX `n`. -/
def framed (f : List Byte) (n : Word) : State :=
  { State.reset with fbIdx := n, mem := Memory.writeRange [] 0x200 f }

/-- A session of one block of one byte in state `st`, everything as a run leaves it there. -/
def sessionIn (st : SessionState) (done : Word) : State :=
  { State.reset with
    state := st, outcome := .pending, len := 1#32, totBlk := 1#32, blkIdx := 1#32, seq := 1#8, progCnt := done,
    acked := done, mem := [(0x10000, 0x55#8)] }

/-- "HELLO". -/
def hello : List Byte := [0x48#8, 0x45#8, 0x4C#8, 0x4C#8, 0x4F#8]
/-- "fw.bin". -/
def fwBin : List Byte := [0x66#8, 0x77#8, 0x2E#8, 0x62#8, 0x69#8, 0x6E#8]
/-- The frame of V-F7. -/
def helloFrame : List Byte := [0x01#8, 0x01#8, 0xFE#8] ++ hello ++ List.replicate 123 0x1A#8 ++ [0x1E#8, 0x70#8]

/-! ## One step each, expected results from 95_test_vectors.md -/

/-- V-E1. -/
theorem test_nop : view (step (State.reset.withFetchWord 32 0x00000000)) statusWord = some 0x00000000#32 := by decide
/-- V-E2. -/
theorem test_nop_with_arg : view (step (State.reset.withFetchWord 32 0x00000100)) statusWord = some 0x00001000#32 := by
  decide
/-- V-C20. -/
theorem test_crc_init :
    view (step ({ State.reset with acc := 0x31C3#16 }.withFetchWord 32 1)) State.acc = some 0x0000#16 := by decide
/-- V-C19: accepted while busy. -/
theorem test_crc_byte_busy :
    view (step ((sessionIn .awaitHdrAck 0#32).withFetchWord 32 0x4102)) (fun t => (t.acc, t.err))
      = some (0x58E5#16, .none) := by decide
/-- V-C16, V-C18. -/
theorem test_crc_update_high_bit : crcUpdate 0xFFFF#16 0x02#8 = 0xC1B2#16 ∧ crcUpdate 0xFFFF#16 0xFF#8 = 0xFF00#16 := by
  decide
set_option maxRecDepth 2000 in
/-- V-C13, V-C12, V-C11. -/
theorem test_crc16_blocks :
    crc16 ((List.range 128).map (BitVec.ofNat 8)) = 0xE80A#16 ∧ crc16 (List.replicate 128 0xFF#8) = 0xEDA9#16 ∧
    crc16 (List.replicate 128 0x1A#8) = 0xF8B0#16 := by decide +kernel
set_option maxRecDepth 2000 in
/-- V-F1. -/
theorem test_frame_hdr :
    view (step ((named fwBin 300#32).withFetchWord 32 8)) frameBytes
      = some (.ok ([0x01#8, 0x00#8, 0xFF#8] ++ fwBin ++ [0x00#8, 0x33#8, 0x30#8, 0x30#8] ++ List.replicate 118 0x00#8
          ++ [0x35#8, 0xF5#8])) := by decide +kernel
/-- V-F4: NAMELEN = 70 uses 64 name bytes (the last name byte, the 0x00, the "5" and the first pad byte). -/
theorem test_frame_hdr_long_name :
    (headerPayload { named (List.replicate 64 0x78#8) 5#32 with nameLen := 70#8 }).toOption.map
        (fun p => [63, 64, 65, 66, 127].map (fun i => p[i]?))
      = some [some 0x78#8, some 0x00#8, some 0x35#8, some 0x00#8, some 0x00#8] := by decide +kernel
set_option maxRecDepth 2000 in
/-- V-F7. -/
theorem test_frame_data :
    view (step ((loaded hello 1#32).withFetchWord 32 9)) frameBytes = some (.ok helloFrame) := by decide +kernel
/-- V-F12: FBIDX = 256, past the end of an empty payload (the first four bytes and the last payload byte). -/
theorem test_frame_data_index_wraps :
    view (step ((loaded [] 256#32).withFetchWord 32 9)) (fun t => [0x200, 0x201, 0x202, 0x203, 0x282].map t.mem.read)
      = some [some 0x01#8, some 0x00#8, some 0xFF#8, some 0x1A#8, some 0x1A#8] := by decide +kernel
set_option maxRecDepth 2000 in
/-- V-F17 (first four bytes and the CRC). -/
theorem test_frame_end :
    view (step (State.reset.withFetchWord 32 0xA)) (fun t => [0x200, 0x201, 0x202, 0x203, 0x283, 0x284].map t.mem.read)
      = some [some 0x01#8, some 0x00#8, some 0xFF#8, some 0x00#8, some 0x00#8, some 0x00#8] := by decide +kernel
set_option maxRecDepth 2000 in
/-- V-K1. -/
theorem test_frame_check : view (step ((framed helloFrame 1#32).withFetchWord 32 0xB)) State.chkRes = some 0x1E70011F#32 := by
  decide +kernel
set_option maxRecDepth 2000 in
/-- V-K2: FRAME[3] changed to 'I'. -/
theorem test_frame_check_bad_crc :
    view (step ((framed (helloFrame.set 3 0x49#8) 1#32).withFetchWord 32 0xB)) State.chkRes = some 0x8CE50116#32 := by
  decide +kernel
/-- V-E12: LEN = PAYLOAD_MAX is legal. -/
theorem test_start :
    view (step ({ State.reset with len := 0x10000#32 }.withFetchWord 32 0x10)) (fun t => (statusWord t, t.totBlk))
      = some (0x00000031#32, 512#32) := by decide
/-- V-E11. -/
theorem test_start_len_range :
    view (step ({ State.reset with len := 0x10001#32 }.withFetchWord 32 0x10)) statusWord = some 0x00003000#32 := by decide
/-- R172's example. -/
theorem test_clear :
    view (step ({ State.reset with state := .failed, outcome := .failed, reason := .timeout, err := .busy,
                                   blkIdx := 7#32 }.withFetchWord 32 0x11)) (fun t => (statusWord t, t.blkIdx))
      = some (0x00000000#32, 0#32) := by decide
/-- V-E8: no abort. -/
theorem test_clear_busy :
    view (step ((beginSession State.reset).withFetchWord 32 0x11)) statusWord = some 0x00002031#32 := by decide
/-- V-E13. -/
theorem test_len_write_while_busy :
    view (step ((beginSession State.reset).withScript [.hostWrite 3#32 7#32])) (fun t => (statusWord t, t.len))
      = some (0x00002031#32, 0#32) := by decide

/-- V-S3: the 10000th tick. -/
theorem test_initial_timeout :
    view (step ({ beginSession State.reset with elapsed := 9999#32 }.withScript [.tick]))
      (fun t => (statusWord t, t.elapsed)) = some (0x0000017C#32, 10000#32) := by decide
/-- V-S11: the 2999th tick of AWAIT_FINAL_ACK. -/
theorem test_tick_before_timeout :
    view (step ({ sessionIn .awaitFinalAck 1#32 with elapsed := 2998#32 }.withScript [.tick]))
      (fun t => (statusWord t, t.elapsed)) = some (0x0000003B#32, 2999#32) := by decide
/-- V-S5: a second 'C' in AWAIT_HDR_ACK. -/
theorem test_wrong_byte :
    view (step ({ sessionIn .awaitHdrAck 0#32 with chan := [0x43#8] }.withScript [.engine .ok]))
      (fun t => (statusWord t, t.chan)) = some (0x0000027C#32, []) := by decide
/-- V-S8: a NAK to block 2. -/
theorem test_block_not_acked :
    view (step ({ sessionIn .awaitDataAck 1#32 with blkIdx := 2#32, totBlk := 2#32, chan := [0x15#8] }.withScript
        [.engine .ok])) (fun t => (statusWord t, t.failBlk)) = some (0x0000037C#32, 2#32) := by decide
/-- V-S13's last byte. -/
theorem test_final_ack :
    view (step ({ sessionIn .awaitFinalAck 1#32 with chan := [0x06#8] }.withScript [.engine .ok])) statusWord
      = some 0x0001004E#32 := by decide
/-- V-S15: with no data blocks the 'C' after the header leads to EOT. -/
theorem test_empty_file_skips_data :
    view (step ({ sessionIn .awaitHdrC 0#32 with totBlk := 0#32, chan := [0x43#8] }.withScript [.engine .ok]))
      State.state = some .sendEot := by decide
/-- V-S18: the cancel write's error is swallowed. -/
theorem test_cancel_error_swallowed :
    view (step ({ sessionIn .failCancel 0#32 with outcome := .failed, reason := .timeout }.withScript [.engine .err]))
      (fun t => (statusWord t, t.wire)) = some (0x0001026D#32, [.wrote [0x18#8, 0x18#8] false]) := by decide
/-- V-W3, V-W5: block 256 carries 00 FF, block 300 carries 2C D3. -/
theorem test_sequence_wraps :
    ((frame (BitVec.ofNat 8 (256 % 256)) []).take 3, (frame (BitVec.ofNat 8 (300 % 256)) []).take 3)
      = ([0x01#8, 0x00#8, 0xFF#8], [0x01#8, 0x2C#8, 0xD3#8]) := by decide
/-- V-S14: an ACK goes on to block 2. -/
theorem test_next_block :
    view (step ({ sessionIn .awaitDataAck 0#32 with len := 129#32, totBlk := 2#32, chan := [0x06#8] }.withScript
        [.engine .ok])) (fun t => (t.state, t.blkIdx, t.seq, t.acked, t.progCnt))
      = some (.sendData, 2#32, 2#8, 128#32, 1#32) := by decide

/-! ## Witnesses: for every obligation with hypotheses, a state and operands that meet them -/

/-- A busy state. -/
def busyState : State := sessionIn .awaitHdrAck 0#32
/-- A session failed and cancelled: START from here begins a new one. -/
def failedState : State :=
  { State.reset with
    state := .failed, outcome := .failed, reason := .timeout, totBlk := 0#32, blkIdx := 1#32, seq := 1#8,
    wire := [.wrote cancelPair true] }

theorem framed_holds (f : List Byte) (n : Word) : (framed f n).mem.holds 0x200 f := Memory.writeRange_holds [] 0x200 f

theorem witness_DecodeAgreesWithOpcodeTable :
    decode 0x0000FF02#32 = .ok (.crcByte 0xFF#8) ∧
    (∃ r ∈ opcodeTable, r.selects 0x0000FF02#32 = true) ∧ (∀ r ∈ opcodeTable, r.selects 0x00000103#32 = false) := by
  decide
theorem witness_StepRunsDecodedCommand :
    (busyState.withFetchWord 32 0x11).script = [.hostWrite 0#32 0x11#32] ∧ decode 0x11#32 = .ok .clear := by decide
theorem witness_illegalWord :
    illegalWord 0x00010000#32 ∧ illegalWord 0x00000003#32 ∧ illegalWord 0x00000101#32 ∧ illegalWord 0xFFFFFFFF#32 := by
  unfold illegalWord
  decide
theorem witness_legalWord : ¬ illegalWord 0x0000FF02#32 ∧ ¬ illegalWord 0x00000011#32 := by
  unfold illegalWord
  decide
theorem witness_CrcIsLinear : ([0x01#8, 0x02#8] : List Byte).length = [0xFF#8, 0x80#8].length := by decide
theorem witness_ill_formed_words :
    (0x00000101#32).extractLsb' 0 8 = 0x01#8 ∧ 0x00000101#32 ≠ 0x00000001#32 ∧
    (0x00010002#32).extractLsb' 0 8 = 0x02#8 ∧ (0x00010002#32).extractLsb' 16 16 ≠ 0#16 ∧
    (0x80000000#32).extractLsb' 0 8 = 0x00#8 ∧ 0x80000000#32 ≠ 0#32 ∧
    (0x00000108#32).extractLsb' 0 8 = 0x08#8 ∧ 0x00000108#32 ≠ 0x00000008#32 ∧
    (0x0000FF09#32).extractLsb' 0 8 = 0x09#8 ∧ 0x0000FF09#32 ≠ 0x00000009#32 ∧
    (0x0001000A#32).extractLsb' 0 8 = 0x0A#8 ∧ 0x0001000A#32 ≠ 0x0000000A#32 ∧
    (0x8000000B#32).extractLsb' 0 8 = 0x0B#8 ∧ 0x8000000B#32 ≠ 0x0000000B#32 ∧
    (0x00000110#32).extractLsb' 0 8 = 0x10#8 ∧ 0x00000110#32 ≠ 0x00000010#32 ∧
    (0x00010011#32).extractLsb' 0 8 = 0x11#8 ∧ 0x00010011#32 ≠ 0x00000011#32 := by decide
theorem witness_AccIsIndependent :
    Event.tick ≠ .reset ∧ Event.tick ≠ .powerOn ∧ Event.tick ≠ .hostRead 0x002#32 ∧
    Event.tick ≠ .hostWrite 0#32 (encode .crcInit) ∧ (∀ b, Event.tick ≠ .hostWrite 0#32 (encode (.crcByte b))) ∧
    (busyState.withScript [.tick]).script = [.tick] ∧ view (step (busyState.withScript [.tick])) State.elapsed = some 1#32 := by
  refine ⟨by decide, by decide, by decide, by decide, fun b => by simp, by decide, by decide⟩
theorem witness_FrameLayout :
    (List.replicate 128 0x55#8 : List Byte).length = 128 ∧
    (headerPayload (named fwBin 300#32)).toOption.isSome = true ∧
    (dataPayload (loaded hello 1#32) 1).toOption.isSome = true := by decide +kernel
theorem witness_DecimalSpellsNumber : (0xFFFFFFFF#32 : Word) ≠ 0#32 := by decide
theorem witness_FrameHdrBuildsHeader :
    busyState.busy = true ∧ (named fwBin 300#32).busy = false ∧
    fwBin.length = min (named fwBin 300#32).nameLen.toNat 64 ∧ (named fwBin 300#32).mem.holds 0x100 fwBin ∧
    ([] : List Byte).length = min State.reset.nameLen.toNat 64 ∧
    ({ State.reset with nameLen := 255#8 } : State).mem.lacks 0x100 (min (255#8 : Byte).toNat 64) := by
  refine ⟨by decide, by decide, by decide, by unfold Memory.holds; decide, by decide, ⟨0, by decide, rfl⟩⟩
theorem witness_FrameDataBuildsBlock :
    busyState.busy = true ∧ (loaded hello 1#32).busy = false ∧
    State.reset.params.payloadMax < 0x10001#32 ∧ (0x10000#32 : Word) ≤ State.reset.params.payloadMax ∧
    (loaded hello 0#32).fbIdx = 0#32 ∧ (loaded hello 1#32).fbIdx ≠ 0#32 ∧
    (loaded hello 1#32).len ≤ (loaded hello 1#32).params.payloadMax ∧
    hello.length = min ((loaded hello 1#32).fbIdx.toNat * 128) (loaded hello 1#32).len.toNat
      - ((loaded hello 1#32).fbIdx.toNat - 1) * 128 ∧
    (loaded hello 1#32).mem.holds (0x10000 + ((loaded hello 1#32).fbIdx.toNat - 1) * 128) hello ∧
    ([] : List Byte).length = min ((0xFFFFFFFF#32 : Word).toNat * 128) 5 - ((0xFFFFFFFF#32 : Word).toNat - 1) * 128 ∧
    ({ loaded hello 1#32 with mem := [] } : State).mem.lacks 0x10000 5 := by
  refine ⟨by decide, by decide, by decide, by decide, by decide, by decide, by decide, by decide,
    by unfold Memory.holds; decide, by decide, ⟨4, by decide, rfl⟩⟩
theorem witness_FrameEndBuildsEndFrame : busyState.busy = true ∧ State.reset.busy = false := by decide
theorem witness_FrameCheckValidates :
    busyState.busy = true ∧ (framed helloFrame 1#32).busy = false ∧ helloFrame.length = 133 ∧
    (framed helloFrame 1#32).mem.holds 0x200 helloFrame ∧ State.reset.mem.lacks 0x200 133 :=
  ⟨by decide, by decide +kernel, by decide +kernel, framed_holds helloFrame 1#32, ⟨132, by decide, Memory.read_nil _⟩⟩
theorem builtFrame_in_memory (p : List Byte) (h : p = List.replicate 128 0x1A#8) :
    (framed (frame 0xFF#8 p) 0#32).busy = false ∧ p.length = 128 ∧
    (framed (frame 0xFF#8 p) 0#32).mem.holds 0x200 (frame 0xFF#8 p) :=
  ⟨rfl, by rw [h, List.length_replicate], framed_holds _ _⟩
theorem witness_BuiltFrameIsValid :
    ∃ (s : State) (num : Byte) (p : List Byte), s.busy = false ∧ p.length = 128 ∧ s.mem.holds 0x200 (frame num p) :=
  ⟨_, _, _, builtFrame_in_memory (List.replicate 128 0x1A#8) rfl⟩
theorem witness_SingleBitErrorIsDetected :
    (List.replicate 128 0x00#8 : List Byte).length = 128 ∧ 3 ≤ 3 ∧ 3 ≤ 132 ∧ 132 ≤ 132 ∧ 0 < 8 ∧ 7 < 8 := by
  rw [List.length_replicate]
  decide
theorem witness_BlocksReassembleBuffer :
    1 ≤ hello.length ∧ hello.length = (loaded hello 1#32).len.toNat ∧ (loaded hello 1#32).mem.holds 0x10000 hello := by
  refine ⟨by decide, by decide, by unfold Memory.holds; decide⟩
theorem witness_StartBeginsSession :
    busyState.busy = true ∧ failedState.busy = false ∧ failedState.len ≤ failedState.params.payloadMax ∧
    ({ failedState with len := 0x10000#32 } : State).len ≤ failedState.params.payloadMax ∧
    failedState.params.payloadMax < ({ failedState with len := 0x10001#32 } : State).len := by decide
theorem witness_ClearReturnsToIdle :
    busyState.busy = true ∧ failedState.busy = false ∧ (view (exec .clear failedState) statusWord).isSome = true := by decide
theorem witness_CommandErrorsInPriority :
    errorOf busyState .frameCheck = .busy ∧ errorOf { State.reset with len := 0x10001#32 } .frameData = .lenRange ∧
    errorOf { State.reset with len := 0x10000#32 } .frameData = .argRange ∧ errorOf failedState .start = .none ∧
    (view (exec .start failedState) State.err).isSome = true ∧ Instr.start ≠ .clear := by decide
theorem witness_BusyLockout :
    busyState.busy = true ∧ isBuffer busyState.params (0x13F#32 : Word).toNat = true ∧
    isBuffer busyState.params (0x284#32 : Word).toNat = true ∧ isBuffer busyState.params (0x1FFFF#32 : Word).toNat = true ∧
    isBuffer busyState.params (0x20000#32 : Word).toNat = false ∧ (0x20000#32 : Word) ≠ 0x000#32 := by decide
theorem witness_ErrChangesOnlyByClearOrReset :
    view (step ({ State.reset with err := .illegal }.withFetchWord 32 0x11)) State.err = some .none ∧
    view (step ({ busyState with err := .busy }.withScript [.reset])) State.err = some .none ∧
    view (step ({ busyState with err := .busy }.withScript [.powerOn])) State.err = some .none := by decide
theorem witness_HostReadReturnsRegister : readWord (0x0F#32 : Word).toNat State.reset = some 0#32 := by decide
theorem witness_HostReadHasNoSideEffect :
    ∃ t, step (busyState.withScript [.hostRead 0x10000#32]) = .next t ∧ t.reads = [0x55#32] := ⟨_, rfl, by decide⟩
theorem witness_UnwrittenReadReturnsSomeByte :
    isBuffer State.reset.params (0x100#32 : Word).toNat = true ∧ State.reset.mem.read (0x100#32 : Word).toNat = none := by
  decide
theorem witness_BufferWriteReadsBack :
    State.reset.busy = false ∧ isBuffer State.reset.params (0x1FFFF#32 : Word).toNat = true ∧
    isBuffer State.reset.params (0x100#32 : Word).toNat = true ∧ busyState.busy = true ∧
    isBuffer busyState.params (0x10000#32 : Word).toNat = true ∧ busyState.mem.read (0x10000#32 : Word).toNat = some 0x55#8 := by
  decide
theorem witness_IgnoredAddresses :
    0x00E < (0x0F#32 : Word).toNat ∧ isBuffer State.reset.params (0x0F#32 : Word).toNat = false ∧
    isBuffer State.reset.params (0x140#32 : Word).toNat = false ∧ isBuffer State.reset.params (0x285#32 : Word).toNat = false ∧
    isBuffer State.reset.params (0xFFFFFFFF#32 : Word).toNat = false := by decide
theorem witness_InitialWait :
    (beginSession State.reset).state = .awaitInitialReady ∧
    ({ beginSession State.reset with chan := [0x43#8] } : State).chan = 0x43#8 :: [] ∧
    ({ beginSession State.reset with chan := [0x15#8] } : State).chan = 0x15#8 :: [] ∧ (0x15#8 : Byte) ≠ 0x43#8 ∧
    (9999#32 : Word).toNat + 1 < 2 ^ 32 ∧ (9999#32 : Word).toNat + 1 ≥ (beginSession State.reset).params.tInitMs := by decide
theorem witness_OrdinaryWaits :
    (∀ st ∈ [SessionState.awaitHdrAck, .awaitHdrC, .awaitEotAck, .awaitFinalC, .awaitFinalAck],
      (sessionIn st 0#32).state = st ∧ ({ sessionIn st 0#32 with chan := [0x15#8] } : State).chan = 0x15#8 :: [] ∧
      (2999#32 : Word).toNat + 1 ≥ (sessionIn st 0#32).params.tAckMs) ∧
    ({ sessionIn .awaitHdrAck 0#32 with chan := [0x06#8] } : State).chan = 0x06#8 :: [] ∧
    ({ sessionIn .awaitHdrC 0#32 with chan := [0x43#8] } : State).chan = 0x43#8 :: [] ∧
    (0x15#8 : Byte) ≠ 0x06#8 ∧ (0x15#8 : Byte) ≠ 0x43#8 ∧ (2999#32 : Word).toNat + 1 < 2 ^ 32 := by decide
theorem witness_DataAckWait :
    (sessionIn .awaitDataAck 0#32).state = .awaitDataAck ∧ (sessionIn .awaitDataAck 0#32).blkIdx = 1#32 ∧
    (sessionIn .awaitDataAck 0#32).totBlk = 1#32 ∧ ({ sessionIn .awaitDataAck 0#32 with totBlk := 2#32 } : State).totBlk ≠ 1#32 ∧
    ({ sessionIn .awaitDataAck 0#32 with chan := [0x06#8] } : State).chan = 0x06#8 :: [] ∧ (0x43#8 : Byte) ≠ 0x06#8 ∧
    (2999#32 : Word).toNat + 1 < 2 ^ 32 ∧ (2999#32 : Word).toNat + 1 ≥ (sessionIn .awaitDataAck 0#32).params.tAckMs := by decide
theorem witness_QuietTurns :
    failedState.busy = false ∧ busyState.state = .awaitHdrAck ∧ busyState.chan = [] ∧
    (sessionIn .sendData 0#32).state = .sendData := by decide
theorem witness_CancelPairErrorIsSwallowed : (sessionIn .failCancel 0#32).state = .failCancel := rfl
theorem witness_RegisterWriteStores : State.reset.busy = false ∧ failedState.busy = false := by decide
theorem witness_SendStates :
    (headerPayload (sessionIn .sendHeader 0#32)).toOption.isSome = true ∧ (sessionIn .sendHeader 0#32).state = .sendHeader ∧
    (dataPayload (sessionIn .sendData 0#32) (sessionIn .sendData 0#32).blkIdx.toNat).toOption.isSome = true ∧
    (sessionIn .sendEot 1#32).state = .sendEot ∧ (sessionIn .sendFinalHeader 1#32).state = .sendFinalHeader ∧
    (sessionIn .failCancel 1#32).state = .failCancel := by decide +kernel
theorem witness_ChannelErrorFailsSession :
    busyState.busy = true ∧ busyState.state ≠ .failCancel ∧ bytesToSend busyState = .ok [] ∧
    (sessionIn .sendEot 1#32).busy = true ∧ bytesToSend (sessionIn .sendEot 1#32) = .ok [0x04#8] :=
  ⟨rfl, by decide, rfl, rfl, rfl⟩
theorem witness_TickBeforeTimeoutOnlyCounts :
    roleOf busyState.state = .wait 0x06#8 .ordinary ∧
    ({ busyState with elapsed := 2998#32 } : State).elapsed.toNat + 1 < WaitClass.ordinary.ticks busyState.params ∧
    WaitClass.ordinary.ticks busyState.params < 2 ^ 32 := by decide
theorem witness_SendFaultsOnUnwrittenByte :
    ({ sessionIn .sendHeader 0#32 with nameLen := 1#8 } : State).mem.lacks 0x100 1 ∧
    ({ sessionIn .sendData 0#32 with mem := [] } : State).mem.lacks 0x10000 1 :=
  ⟨⟨0, by decide, rfl⟩, ⟨0, by decide, rfl⟩⟩
theorem witness_ResetSetsEveryRegister : (busyState.withScript [.reset]).script = [.reset] := by decide
theorem witness_WhoWritesState :
    view (step (failedState.withFetchWord 32 0x10)) State.state = some .awaitInitialReady ∧
    view (step (failedState.withFetchWord 32 0x11)) State.state = some .idle ∧
    view (step (busyState.withScript [.powerOn])) State.state = some .idle ∧
    view (step ({ busyState with elapsed := 2999#32 }.withScript [.tick])) State.state = some .failCancel := by decide
theorem witness_InputsLockedWhileBusy :
    view (step (busyState.withScript [.hostWrite 0x10000#32 0#32])) (fun t => (t.mem, t.err))
      = some (busyState.mem, .busy) ∧ busyState.busy = true := by decide
theorem witness_HostCannotDisturbSession :
    (view (step (busyState.withFetchWord 32 0x4102)) State.acc).isSome = true ∧ busyState.busy = true := by decide
theorem witness_SessionIgnoresHostState :
    (∀ a, inFrame a = false → Memory.read busyState.mem a = busyState.mem.read a) ∧
    (view (engineTurn .err busyState) State.state).isSome = true := ⟨fun _ _ => rfl, by decide⟩
set_option maxRecDepth 2000 in
theorem witness_WhoWritesCheckResultAccAndCap :
    view (step ((framed helloFrame 1#32).withFetchWord 32 0xB)) (fun t => decide (t.chkRes ≠ State.reset.chkRes)) = some true ∧
    view (step (State.reset.withFetchWord 32 0x3102)) (fun t => decide (t.acc ≠ State.reset.acc)) = some true := by
  decide +kernel
theorem witness_ChannelDiscipline :
    view (step ({ busyState with chan := [0x15#8] }.withScript [.engine .ok])) (fun t => (t.chan, t.wire))
      = some ([], [.got 0x15#8]) ∧
    view (step (busyState.withScript [.engine .err])) State.wire = some [.readErr] ∧
    view (step ((sessionIn .sendEot 1#32).withScript [.engine .ok])) State.wire = some [.wrote [0x04#8] true] ∧
    view (step ((sessionIn .sendEot 1#32).withScript [.engine .err])) State.wire = some [.wrote [0x04#8] false] := by decide
theorem witness_ChannelDiscipline_peer :
    view (step ({ busyState with chan := [0x15#8] }.withScript [.peer 0x43#8])) State.chan = some [0x15#8, 0x43#8] ∧
    view (step (State.reset.withScript [.peer 0x43#8])) State.chan = some [0x43#8] := by decide
theorem witness_ChannelDiscipline_foreign :
    view (step ({ failedState with chan := [0x15#8, 0x06#8] }.withScript [.foreignTake])) State.chan = some [0x06#8] ∧
    view (step (State.reset.withScript [.foreignTake])) State.chan = some [] ∧
    view (step ({ failedState with chan := [0x15#8] }.withScript [.foreignWrite [0x00#8]])) State.chan = some [0x15#8] ∧
    busyState.busy = true ∧ failedState.busy = false := by decide

/-! ## Witnesses that meet the invariant -/

theorem witness_Inv_waiting :
    Inv { sessionIn .awaitHdrAck 0#32 with params := ⟨1#32, 2, 1⟩, script := [.tick, .engine .ok] } := by
  constructor <;> simp only [sessionIn, State.reset, beforeData, inData, afterData, waitRunning, roleOf, chkResOk] <;>
    decide
theorem witness_SilentPeerEndsWait :
    roleOf (sessionIn .awaitHdrAck 0#32).state = .wait 0x06#8 .ordinary ∧ ChAnswer.ok ≠ .silent ∧
    [Event.tick, .engine .ok] = List.replicate (WaitClass.ordinary.ticks ⟨1#32, 2, 1⟩ - 0) .tick ++ .engine .ok :: [] := by
  decide
theorem witness_Inv_dataAck : Inv { sessionIn .awaitDataAck 0#32 with chan := [0x06#8], script := [.engine .ok] } := by
  constructor <;> simp only [sessionIn, State.reset, beforeData, inData, afterData, waitRunning, roleOf, chkResOk] <;>
    decide
theorem witness_EveryStepKeepsTheInvariant_and_ProgressIsStrictlyIncreasing :
    view (step { sessionIn .awaitDataAck 0#32 with chan := [0x06#8], script := [.engine .ok] })
      (fun t => (t.state, t.progress.length)) = some (.sendEot, 1) := by decide
theorem witness_Inv_finalAck : Inv { sessionIn .awaitFinalAck 1#32 with chan := [0x06#8], script := [.engine .ok] } := by
  constructor <;> simp only [sessionIn, State.reset, beforeData, inData, afterData, waitRunning, roleOf, chkResOk] <;>
    decide
theorem witness_Inv_notAcked :
    Inv { sessionIn .failCancel 0#32 with
      outcome := .failed, reason := .blockNotAcked, failBlk := 1#32, script := [.engine .err] } := by
  constructor <;> simp only [sessionIn, State.reset, beforeData, inData, afterData, waitRunning, roleOf, chkResOk] <;>
    decide
theorem witness_TerminalCounters :
    view (step { sessionIn .awaitFinalAck 1#32 with chan := [0x06#8], script := [.engine .ok] }) State.state
      = some .succeeded ∧
    view (step { sessionIn .failCancel 0#32 with
        outcome := .failed, reason := .blockNotAcked, failBlk := 1#32, script := [.engine .err] })
      (fun t => (t.state, t.reason)) = some (.failed, .blockNotAcked) := by decide
theorem witness_TranscriptFollowsPosition :
    ∃ s t : State, Inv s ∧ s.busy = true ∧ s.state ≠ .failCancel ∧ s.wire = [] ++ txnsSoFar s ∧ step s = .next t ∧
      t.state ≠ .failCancel ∧ t.state ≠ .idle := by
  refine ⟨{ sessionIn .awaitInitialReady 0#32 with chan := [0x43#8], script := [.engine .ok] }, _, ?_, rfl, by decide, rfl,
    rfl, by decide, by decide⟩
  constructor <;> simp only [sessionIn, State.reset, beforeData, inData, afterData, waitRunning, roleOf, chkResOk] <;>
    decide

/-- The steps of a session, as long as it is busy. -/
def runBusy : Nat → State → Option State
  | 0, s => some s
  | n + 1, s =>
    if s.busy then
      match step s with
      | .next t => runBusy n t
      | .fault _ => none
      | .refused _ => none
    else none

theorem runBusy_active {n : Nat} {s u : State} (h : runBusy n s = some u) : ActiveRun s u := by
  induction n generalizing s with
  | zero =>
    simp only [runBusy, Option.some.injEq] at h
    subst h
    exact .here s
  | succ n ih =>
    simp only [runBusy] at h
    split at h
    · rename_i hb
      cases hs : step s with
      | next t => rw [hs] at h; exact ActiveRun.step_left hb hs (ih h)
      | fault r => rw [hs] at h; simp at h
      | refused r => rw [hs] at h; simp at h
    · simp at h

/-- A failed session's state, from which an empty file is to be sent (V-S15's peer). -/
def emptyFile : State :=
  { failedState with
    chan := [0x43#8, 0x06#8, 0x43#8, 0x06#8, 0x43#8, 0x06#8], script := List.replicate 9 (.engine .ok) }

theorem emptyFile_Inv : Inv emptyFile := by
  constructor <;>
    simp only [emptyFile, failedState, State.reset, beforeData, inData, afterData, waitRunning, roleOf, chkResOk] <;>
    decide

theorem emptyFile_succeeds : (runBusy 9 (beginSession emptyFile)).map State.state = some .succeeded := by decide +kernel

theorem witness_SuccessfulSessionTranscript :
    ∃ s t u : State, Inv s ∧ s.busy = false ∧ s.len ≤ s.params.payloadMax ∧ exec .start s = .next t ∧ ActiveRun t u ∧
      u.state = .succeeded := by
  obtain ⟨u, hu, hst⟩ := Option.map_eq_some_iff.1 emptyFile_succeeds
  exact ⟨emptyFile, _, u, emptyFile_Inv, by decide, by decide, rfl, runBusy_active hu, hst⟩

/-- A failed session's state, from which a file of one byte, one data block, is to be sent. -/
def oneBlockFile : State :=
  { failedState with
    len := 1#32, mem := [(0x10000, 0x55#8)], chan := [0x43#8, 0x06#8, 0x43#8, 0x06#8, 0x06#8, 0x43#8, 0x06#8],
    script := List.replicate 11 (.engine .ok) }

theorem oneBlockFile_Inv : Inv oneBlockFile := by
  constructor <;>
    simp only [oneBlockFile, failedState, State.reset, beforeData, inData, afterData, waitRunning, roleOf, chkResOk] <;>
    decide

theorem oneBlockFile_succeeds :
    (runBusy 11 (beginSession oneBlockFile)).map (fun u => (u.state, u.totBlk, u.progCnt)) = some (.succeeded, 1#32, 1#32) := by
  decide +kernel

theorem witness_SuccessfulSessionTranscript_dataBlock :
    ∃ s t u : State, Inv s ∧ s.busy = false ∧ s.len ≤ s.params.payloadMax ∧ exec .start s = .next t ∧ ActiveRun t u ∧
      u.state = .succeeded ∧ u.totBlk = 1#32 := by
  obtain ⟨u, hu, hst⟩ := Option.map_eq_some_iff.1 oneBlockFile_succeeds
  simp only [Prod.mk.injEq] at hst
  exact ⟨oneBlockFile, _, u, oneBlockFile_Inv, by decide, by decide, rfl, runBusy_active hu, hst.1, hst.2.1⟩

theorem witness_WaitTicksAreBounded :
    ∃ (s t u : State) (n : Nat), Inv s ∧ s.busy = false ∧ s.len ≤ s.params.payloadMax ∧ exec .start s = .next t ∧
      CountedRun n t u ∧ n = 1 := by
  let t := beginSession (emptyFile.withScript [.tick])
  refine ⟨emptyFile.withScript [.tick], t, _, 0 + waitTick t, ?_, by decide, by decide, rfl,
    .more 0 t t (tickTurn (t.withScript [])) (.here t) rfl rfl, rfl⟩
  exact emptyFile_Inv.of_same_session rfl rfl rfl rfl rfl rfl rfl rfl rfl rfl rfl rfl (fun _ => rfl)
    emptyFile_Inv.mem_wf emptyFile_Inv.mem_mapped emptyFile_Inv.chkRes_form

theorem witness_NoCancelPairWithoutFailure :
    ∃ s t u : State, Inv s ∧ s.busy = false ∧ s.len ≤ s.params.payloadMax ∧ exec .start s = .next t ∧ ActiveRun t u ∧
      u.state ≠ .failed ∧ u.state ≠ .idle := by
  obtain ⟨s, t, u, h, hb, hl, he, hr, hu⟩ := witness_SuccessfulSessionTranscript
  exact ⟨s, t, u, h, hb, hl, he, hr, by simp [hu], by simp [hu]⟩

end Sys2Proof.Tests
end

section
/-! PROOF. The discipline of the channel (00_scope.md R10, 42_sender.md R180 and R215): which steps touch the channel and the record of the wire. -/

namespace Sys2Proof.Machine

/-! ## What each agent's step does to the channel and the wire -/

/-- A command is no channel transaction. -/
theorem exec_wire {i : Instr} {s t : State} (h : exec i s = .next t) : t.wire = s.wire ∧ t.chan = s.chan := by
  rcases exec_next h with ⟨-, rfl⟩ | ⟨-, ⟨-, rfl⟩ | ⟨-, x, rfl⟩ | ⟨-, -, f, -, rfl⟩ | ⟨-, -, f, rfl⟩ |
    ⟨-, -, -, rfl⟩ | ⟨-, -, rfl⟩⟩ <;> simp

/-- A host write is no channel transaction. -/
theorem hostWrite_wire {a w : Word} {s t : State} (h : hostWrite a w s = .next t) :
    t.wire = s.wire ∧ t.chan = s.chan := by
  rcases hostWrite_next h with
    rfl | ⟨c, rfl⟩ | ⟨-, ⟨x, rfl⟩ | ⟨x, rfl⟩ | ⟨x, rfl⟩ | ⟨-, rfl⟩⟩ | ⟨-, i, -, hi⟩
  case inr.inr.inr => exact exec_wire hi
  all_goals simp

/-- A host read is no channel transaction. -/
theorem hostRead_wire (a : Word) (s : State) : (hostRead a s).wire = s.wire ∧ (hostRead a s).chan = s.chan := by
  obtain ⟨r, d, h⟩ := hostRead_record a s
  simp [h]

/-- The engine's turn on the channel (R180, R215): none, one write of the send state's own sequence, or one read, which takes the oldest byte or is answered `Err`. -/
theorem engineTurn_wire {ans : ChAnswer} {s t : State} (h : engineTurn ans s = .next t) :
    (t.wire = s.wire ∧ t.chan = s.chan) ∨
    (roleOf s.state = .send ∧ t.chan = s.chan ∧ ∃ bs, bytesToSend s = .ok bs ∧
      ((ans = .ok ∧ t.wire = s.wire ++ [.wrote bs true]) ∨ (ans = .err ∧ t.wire = s.wire ++ [.wrote bs false]))) ∨
    (∃ e cls, roleOf s.state = .wait e cls ∧
      ((ans = .ok ∧ ∃ b, s.chan = b :: t.chan ∧ t.wire = s.wire ++ [.got b]) ∨
       (ans = .err ∧ t.chan = s.chan ∧ t.wire = s.wire ++ [.readErr]))) := by
  rcases engineTurn_next h with rfl | ⟨hr, bs, hb, ⟨ha, rfl⟩ | ⟨ha, rfl⟩⟩ |
    ⟨e, cls, hr, ⟨ha, rfl⟩ | ⟨ha, b, rest, hc, rfl⟩⟩
  case inl => exact .inl ⟨rfl, rfl⟩
  case inr.inl.inl =>
    obtain ⟨hw, hch⟩ := afterWriteOk_wire (recordTxn (.wrote bs true) s)
    exact .inr (.inl ⟨hr, hch, bs, hb, .inl ⟨ha, hw⟩⟩)
  case inr.inl.inr =>
    obtain ⟨hw, hch⟩ := afterWriteErr_wire (recordTxn (.wrote bs false) s)
    exact .inr (.inl ⟨hr, hch, bs, hb, .inr ⟨ha, hw⟩⟩)
  case inr.inr.inl => exact .inr (.inr ⟨e, cls, hr, .inr ⟨ha, rfl, rfl⟩⟩)
  case inr.inr.inr =>
    obtain ⟨hw, hch⟩ := onByte_wire e b (recordTxn (.got b) { s with chan := rest })
    exact .inr (.inr ⟨e, cls, hr, .inl ⟨ha, b, by rw [hc, hch]; rfl, hw⟩⟩)

/-! ## What every step does to the channel and the wire -/

/-- The sequence a send state writes does not depend on the steps to come. -/
@[simp] theorem withScript_bytesToSend (s : State) (es : List Event) : bytesToSend (s.withScript es) = bytesToSend s := rfl

/-- What a step can do to the channel and the wire: nothing, a peer's byte, a foreign take, or the engine's one transaction (R10, R180, R215, R272). -/
theorem step_wire {s t : State} {e : Event} {rest : List Event} (hs : s.script = e :: rest) (h : step s = .next t) :
    (t.wire = s.wire ∧ t.chan = s.chan) ∨
    (∃ b, e = .peer b ∧ t.wire = s.wire ∧ t.chan = s.chan ++ [b]) ∨
    (∃ b, e = .foreignTake ∧ s.busy = false ∧ t.wire = s.wire ∧ s.chan = b :: t.chan) ∨
    (roleOf s.state = .send ∧ t.chan = s.chan ∧ ∃ bs, bytesToSend s = .ok bs ∧
      ((e = .engine .ok ∧ t.wire = s.wire ++ [.wrote bs true]) ∨
       (e = .engine .err ∧ t.wire = s.wire ++ [.wrote bs false]))) ∨
    (∃ x cls, roleOf s.state = .wait x cls ∧
      ((e = .engine .ok ∧ ∃ b, s.chan = b :: t.chan ∧ t.wire = s.wire ++ [.got b]) ∨
       (e = .engine .err ∧ t.chan = s.chan ∧ t.wire = s.wire ++ [.readErr]))) := by
  rcases step_cases hs h with ⟨a, -, rfl⟩ | ⟨a, w, -, hw⟩ | ⟨ans, rfl, he⟩ | ⟨-, rfl⟩ | ⟨b, rfl, rfl⟩ |
    ⟨rfl, hb, rfl⟩ | ⟨bs, -, -, rfl⟩ | ⟨-, rfl⟩ | ⟨-, rfl⟩
  · exact .inl (hostRead_wire a _)
  · have hq := hostWrite_wire hw
    exact .inl hq
  · rcases engineTurn_wire he with hq | hw | hr
    · exact .inl hq
    · exact .inr (.inr (.inr (.inl (by simpa using hw))))
    · exact .inr (.inr (.inr (.inr (by simpa using hr))))
  · exact .inl (tickTurn_wire _)
  · exact .inr (.inl ⟨b, rfl, rfl, rfl⟩)
  · cases hc : s.chan with
    | nil => exact .inl ⟨rfl, rfl⟩
    | cons b cs => exact .inr (.inr (.inl ⟨b, rfl, hb, rfl, rfl⟩))
  · exact .inl ⟨rfl, rfl⟩
  · exact .inl ⟨rfl, rfl⟩
  · exact .inl ⟨rfl, rfl⟩

/-! ## What the peer and the other agents can do -/

theorem step_peer {s : State} {b : Byte} {rest : List Event} (hs : s.script = .peer b :: rest) :
    step s = .next { s with chan := s.chan ++ [b], script := rest } := by
  rw [step_cons hs]
  rfl

theorem step_foreignTake {s : State} {rest : List Event} (hs : s.script = .foreignTake :: rest) :
    step s = if s.busy then .fault .channelNotExclusive
      else .next { s with chan := s.chan.drop 1, script := rest } := by
  rw [step_cons hs]
  rfl

theorem step_foreignWrite {s : State} {bs : List Byte} {rest : List Event} (hs : s.script = .foreignWrite bs :: rest) :
    step s = if s.busy then .fault .channelNotExclusive else .next { s with script := rest } := by
  rw [step_cons hs]
  rfl

/-- Settles O50, by what a step can do to the channel and the wire, and what each foreign step answers. -/
theorem channelDiscipline : Obligations.ChannelDiscipline := by
  unfold Obligations.ChannelDiscipline
  refine ⟨fun s t e rest hs h => ?_, fun s rest => ⟨fun b => step_peer,
    fun hs hb => by simp [step_foreignTake hs, hb], fun hs hb => by simp [step_foreignTake hs, hb],
    fun bs hs hb => by simp [step_foreignWrite hs, hb], fun bs hs hb => by simp [step_foreignWrite hs, hb]⟩⟩
  rcases step_wire hs h with ⟨hw, hc⟩ | ⟨b, he, hw, hc⟩ | ⟨b, he, hb, hw, hc⟩ | ⟨hr, hc, hw⟩ |
    ⟨x, cls, hr, ⟨he, b, hc, hw⟩ | ⟨he, hc, hw⟩⟩
  · exact ⟨.inl hc, .inl hw⟩
  · exact ⟨.inr (.inl ⟨b, he, hc⟩), .inl hw⟩
  · exact ⟨.inr (.inr ⟨b, hc, .inr ⟨he, hb, hw⟩⟩), .inl hw⟩
  · exact ⟨.inl hc, .inr (.inr ⟨hr, hc, hw⟩)⟩
  · exact ⟨.inr (.inr ⟨b, hc, .inl ⟨he, hw⟩⟩), .inr (.inl ⟨x, cls, hr, .inl ⟨he, b, hc, hw⟩⟩)⟩
  · exact ⟨.inl hc, .inr (.inl ⟨x, cls, hr, .inr ⟨he, hc, hw⟩⟩)⟩

end Sys2Proof.Machine
end

section
/-! PROOF. What the registers read (10_state.md R20 to R26): the fields of the STATUS word, and every register right after a reset (R50). -/

namespace Sys2Proof.Machine

/-! ## A word's fields, by its number -/

theorem bit_toNat (b : Bool) : (bit b).toNat = b.toNat := by cases b <;> rfl

/-- ORing a field in above a number below `2 ^ k` adds it there. -/
theorem or_shiftLeft_toNat {x c : Word} {m n k : Nat} (hx : x.toNat = m) (hc : c.toNat = n) (hm : m < 2 ^ k)
    (hn : n * 2 ^ k < 2 ^ 32) : (x ||| c <<< k).toNat = m + n * 2 ^ k := by
  rw [BitVec.toNat_or, BitVec.toNat_shiftLeft, hx, hc, Nat.shiftLeft_eq, Nat.mod_eq_of_lt hn, ← Nat.shiftLeft_eq,
    Nat.or_comm, ← Nat.shiftLeft_add_eq_or_of_lt hm, Nat.add_comm]

theorem extractLsb'_eq_iff (w : Word) {k : Nat} (lo : Nat) (c : BitVec k) :
    w.extractLsb' lo k = c ↔ w.toNat / 2 ^ lo % 2 ^ k = c.toNat := by
  rw [BitVec.toNat_eq, BitVec.extractLsb'_toNat, Nat.shiftRight_eq_div_pow]

theorem field_eq_iff (w c : Word) (lo k : Nat) :
    (w.extractLsb' lo k).setWidth 32 = c ↔ w.toNat / 2 ^ lo % 2 ^ k % 2 ^ 32 = c.toNat := by
  rw [BitVec.toNat_eq, BitVec.toNat_setWidth, (extractLsb'_eq_iff w lo _).1 rfl]

theorem getLsbD_eq_iff (w : Word) (i : Nat) (b : Bool) : w.getLsbD i = b ↔ w.toNat / 2 ^ i % 2 = b.toNat := by
  rw [← BitVec.testBit_toNat, Nat.testBit_eq_decide_div_mod_eq]
  cases b <;> simp

/-! ## The codes fit their fields -/

theorem SessionState.code_lt (st : SessionState) : st.code.toNat < 2 ^ 4 := by cases st <;> decide

theorem SessionOutcome.code_lt (o : SessionOutcome) : o.code.toNat < 2 ^ 3 := by cases o <;> decide

theorem FailReason.code_lt (r : FailReason) : r.code.toNat < 2 ^ 4 := by cases r <;> decide

theorem CmdError.code_lt (e : CmdError) : e.code.toNat < 2 ^ 4 := by cases e <;> decide

theorem done_iff (s : State) : s.done = true ↔ s.state = .failed ∨ s.state = .succeeded := by
  unfold State.done
  cases s.state <;> simp [SessionState.done]

/-! ## The STATUS word -/

/-- Each part of STATUS fits the bits of its field (R21 to R26). -/
theorem status_parts_lt (s : State) :
    s.state.code.toNat < 2 ^ 4 ∧ s.busy.toNat < 2 ∧ s.outcome.code.toNat < 2 ^ 3 ∧ s.reason.code.toNat < 2 ^ 4 ∧
      s.err.code.toNat < 2 ^ 4 ∧ s.done.toNat < 2 :=
  ⟨s.state.code_lt, s.busy.toNat_lt, s.outcome.code_lt, s.reason.code_lt, s.err.code_lt, s.done.toNat_lt⟩

/-- STATUS as a number: every field stays in its place (R21 to R26). -/
theorem statusWord_toNat (s : State) :
    (statusWord s).toNat = s.state.code.toNat + s.busy.toNat * 2 ^ 4 + s.outcome.code.toNat * 2 ^ 5 +
      s.reason.code.toNat * 2 ^ 8 + s.err.code.toNat * 2 ^ 12 + s.done.toNat * 2 ^ 16 := by
  have hlt := status_parts_lt s
  have h4 := or_shiftLeft_toNat (k := 4) (x := s.state.code) rfl (bit_toNat s.busy) (by omega) (by omega)
  have h5 := or_shiftLeft_toNat (k := 5) (c := s.outcome.code) h4 rfl (by omega) (by omega)
  have h8 := or_shiftLeft_toNat (k := 8) (c := s.reason.code) h5 rfl (by omega) (by omega)
  have h12 := or_shiftLeft_toNat (k := 12) (c := s.err.code) h8 rfl (by omega) (by omega)
  exact or_shiftLeft_toNat (k := 16) h12 (bit_toNat s.done) (by omega) (by omega)

/-- The four codes of STATUS, its BUSY and DONE bits and its zero bits (R21 to R26). -/
theorem statusWord_fields (s : State) :
    ((statusWord s).extractLsb' 0 4).setWidth 32 = s.state.code ∧
    (statusWord s).getLsbD 4 = s.busy ∧
    ((statusWord s).extractLsb' 5 3).setWidth 32 = s.outcome.code ∧
    ((statusWord s).extractLsb' 8 4).setWidth 32 = s.reason.code ∧
    ((statusWord s).extractLsb' 12 4).setWidth 32 = s.err.code ∧
    (statusWord s).getLsbD 16 = s.done ∧
    (statusWord s).extractLsb' 17 15 = 0#15 := by
  have hlt := status_parts_lt s
  simp only [field_eq_iff, getLsbD_eq_iff, extractLsb'_eq_iff, statusWord_toNat, BitVec.toNat_ofNat]
  refine ⟨?_, ?_, ?_, ?_, ?_, ?_, ?_⟩ <;> omega

theorem readReg_status (s : State) : readReg s .status = statusWord s := rfl

/-- Settles O28: each field is read off STATUS as a number, BUSY and DONE by the states they stand for. -/
theorem statusWordFields : Obligations.StatusWordFields := by
  unfold Obligations.StatusWordFields
  refine ⟨fun s => ?_, by decide, by decide, by decide, by decide, by decide⟩
  obtain ⟨hst, hb, ho, hr, he, hd, hz⟩ := statusWord_fields s
  exact ⟨hst, by rw [readReg_status, hb]; exact busy_iff_code s.state, ho, hr, he,
    by rw [readReg_status, hd]; exact done_iff s, hz⟩

/-! ## The reset state -/

/-- Every register but CAP reads 0 after a reset (R50). -/
theorem readReg_reset {r : Reg} (h : r ≠ .cap) : readReg State.reset r = 0#32 := by
  cases r with
  | cap => exact absurd rfl h
  | _ => rfl

/-- Settles O44: one register at a time, and the fields of the reset state. -/
theorem resetStateValues : Obligations.ResetStateValues := by
  unfold Obligations.ResetStateValues
  exact ⟨fun r => readReg_reset, rfl, Memory.read_nil, rfl, rfl, rfl⟩

end Sys2Proof.Machine
end

section
/-! PROOF. The host's view of an address (20_memory.md R61 to R66): buffer bytes, read-only registers and unmapped addresses. -/

namespace Sys2Proof.Machine

/-! ## Buffer addresses -/

/-- A buffer byte that holds a value is read with bits [31:8] 0 (R63). -/
theorem readWord_buffer {s : State} {a : Nat} {b : Byte} (h : isBuffer s.params a = true) (hb : s.mem.read a = some b) :
    readWord a s = some (0x000000#24 ++ b) := by
  rw [← byte_as_word]
  simp [readWord, regAt_none_of_isBuffer h, h, hb]

theorem hostWrite_buffer {s : State} {a : Word} (w : Word) (h : isBuffer s.params a.toNat = true) :
    hostWrite a w s = unlessBusy s (.next { s with mem := s.mem.write a.toNat (w.extractLsb' 0 8) }) := by
  rw [← low_byte]
  simp [hostWrite, regAt_none_of_isBuffer h, h, writeBuffer]

/-- Settles O31, by the laws of buffer memory: a write stores one byte, which is then read back. -/
theorem bufferWriteReadsBack : Obligations.BufferWriteReadsBack := by
  unfold Obligations.BufferWriteReadsBack
  refine fun s a w ha => ⟨fun b hb => readWord_buffer ha hb, fun hb => ?_, fun hb => ?_⟩
  · rw [hostWrite_buffer w ha, unlessBusy_of_busy _ hb]
  · exact ⟨_, (hostWrite_buffer w ha).trans (unlessBusy_of_idle _ hb), rfl, Memory.write_stored ..,
      readWord_buffer ha (Memory.read_write_same ..)⟩

/-! ## Addresses a write ignores -/

/-- Only CMD, LEN, NAMELEN and FBIDX are writable (R65). -/
theorem writeReg_readOnly {r : Reg} (h : r ∉ [Reg.cmd, .len, .nameLen, .fbIdx]) (w : Word) (s : State) :
    writeReg r w s = .next s := by
  cases r with
  | cmd | len | nameLen | fbIdx => simp at h
  | _ => rfl

theorem hostWrite_register {a : Word} {r : Reg} (h : regAt a.toNat = some r) (w : Word) (s : State) :
    hostWrite a w s = writeReg r w s := by
  simp [hostWrite, h]

/-- The read-only registers' addresses (R20, R65). -/
theorem regAt_readOnly :
    ∀ a ∈ [0x001#32, 0x002#32, 0x006#32, 0x007#32, 0x008#32, 0x009#32, 0x00A#32, 0x00B#32, 0x00C#32, 0x00D#32, 0x00E#32],
      ∃ r, regAt a.toNat = some r ∧ r ∉ [Reg.cmd, .len, .nameLen, .fbIdx] := by
  simp [regAt]

theorem hostWrite_unmapped {s : State} {a : Word} (w : Word) (hr : 0x00E < a.toNat)
    (hb : isBuffer s.params a.toNat = false) : hostWrite a w s = .next s := by
  simp [hostWrite, regAt_none hr, hb]

theorem readWord_unmapped {s : State} {a : Nat} (hr : 0x00E < a) (hb : isBuffer s.params a = false) :
    readWord a s = some 0#32 := by
  simp [readWord, regAt_none hr, hb]

/-- Settles O33: a read-only register's write by the register at its address, an unmapped address by neither register nor buffer being there. -/
theorem ignoredAddresses : Obligations.IgnoredAddresses := by
  unfold Obligations.IgnoredAddresses
  refine fun s a w => ⟨fun ha => ?_, fun hr hb => ⟨hostWrite_unmapped w hr hb, readWord_unmapped hr hb⟩, rfl⟩
  obtain ⟨r, hr, hro⟩ := regAt_readOnly a ha
  rw [hostWrite_register hr, writeReg_readOnly hro]

end Sys2Proof.Machine
end

section
/-! PROOF. The command encoding (30_encoding.md R90 to R93): the decoder accepts exactly the nine commands' encodings, the opcode table's rows select the same words, and what a write of any other word to CMD does (60_exceptions.md R232). -/

namespace Sys2Proof

/-! ## Decoding inverts encoding -/

theorem decodeFields_fieldsFor (i : Instr) : decodeFields (fieldsFor i) = .ok i := by
  cases i <;> rfl

theorem decodeFields_eq_ok_iff {f : CommandFields} {i : Instr} : decodeFields f = .ok i ↔ f = fieldsFor i :=
  ⟨decodeFields_ok, fun h => h ▸ decodeFields_fieldsFor i⟩

@[simp] theorem decode_encode (i : Instr) : decode (encode i) = .ok i := by
  rw [decode, fieldsOf_encode, decodeFields_fieldsFor]

theorem encode_injective : Function.Injective encode := fun i j h =>
  Except.ok.inj (by rw [← decode_encode i, h, decode_encode])

/-- The decoder accepts exactly the encodings (R92). -/
theorem decode_eq_ok_iff {w : Word} {i : Instr} : decode w = .ok i ↔ w = encode i := by
  rw [decode, decodeFields_eq_ok_iff, ← fieldsOf_encode]
  exact ⟨fieldsOf_injective, congrArg fieldsOf⟩

/-! ## The opcode table's rows -/

/-- A mask acts on each field. -/
theorem wordOf_and (f g : CommandFields) :
    wordOf f &&& wordOf g = wordOf ⟨f.op &&& g.op, f.arg &&& g.arg, f.rsv &&& g.rsv⟩ := by
  have hHigh : (f.rsv ++ f.arg) &&& (g.rsv ++ g.arg) = (f.rsv &&& g.rsv) ++ (f.arg &&& g.arg) := BitVec.and_append
  rw [wordOf, wordOf, wordOf, ← hHigh]
  exact BitVec.and_append

theorem wordOf_injective : Function.Injective wordOf := fun f g h => by
  rw [← fieldsOf_wordOf f, h, fieldsOf_wordOf]

/-- A row with the full mask selects its match word alone. -/
theorem selects_fullMask {m : String} {c w : Word} :
    (OpcodeRow.mk m c 0xFFFFFFFF#32).selects w = true ↔ w = c := by
  rw [OpcodeRow.selects, beq_iff_eq, show 0xFFFFFFFF#32 = BitVec.allOnes 32 from rfl, BitVec.and_allOnes]

/-- CRC_BYTE's row leaves ARG free: it selects CRC_BYTE's encodings, one for each byte (R91, R94). -/
theorem selects_crcByte {m : String} {w : Word} :
    (OpcodeRow.mk m 0x00000002#32 0xFFFF00FF#32).selects w = true ↔ ∃ b, w = encode (.crcByte b) := by
  have hmask : 0xFFFF00FF#32 = wordOf ⟨0xFF#8, 0x00#8, 0xFFFF#16⟩ := rfl
  have hmatch : 0x00000002#32 = wordOf ⟨0x02#8, 0x00#8, 0x0000#16⟩ := rfl
  obtain ⟨⟨op, arg, rsv⟩, rfl⟩ : ∃ f, w = wordOf f := ⟨fieldsOf w, (wordOf_fieldsOf w).symm⟩
  have hop : op &&& 0xFF#8 = op := BitVec.and_allOnes
  have hrsv : rsv &&& 0xFFFF#16 = rsv := BitVec.and_allOnes
  simp [OpcodeRow.selects, hmask, hmatch, wordOf_and, encode, wordOf_injective.eq_iff, hop, hrsv]

/-- The mnemonic names the row. -/
theorem opcodeTable_mnemonic_injOn :
    ∀ r ∈ opcodeTable, ∀ r' ∈ opcodeTable, r.mnemonic = r'.mnemonic → r = r' := by decide

/-- Each command's encoding selects the row with its mnemonic. -/
theorem exists_row_selects_encode (i : Instr) :
    ∃ r ∈ opcodeTable, r.selects (encode i) = true ∧ r.mnemonic = i.mnemonic := by
  cases i with
  | crcByte b => exact ⟨⟨"CRC_BYTE", _, _⟩, by simp [opcodeTable], selects_crcByte.2 ⟨b, rfl⟩, rfl⟩
  | _ => decide

/-- A row selects only encodings of the command with its mnemonic. -/
theorem exists_encode_of_selects {r : OpcodeRow} {w : Word} (hr : r ∈ opcodeTable) (h : r.selects w = true) :
    ∃ i : Instr, w = encode i ∧ i.mnemonic = r.mnemonic := by
  simp only [opcodeTable, List.mem_cons, List.not_mem_nil, or_false] at hr
  rcases hr with rfl | rfl | rfl | rfl | rfl | rfl | rfl | rfl | rfl
  · exact ⟨.nop, selects_fullMask.1 h, rfl⟩
  · exact ⟨.crcInit, selects_fullMask.1 h, rfl⟩
  · obtain ⟨b, hb⟩ := selects_crcByte.1 h
    exact ⟨.crcByte b, hb, rfl⟩
  · exact ⟨.frameHdr, selects_fullMask.1 h, rfl⟩
  · exact ⟨.frameData, selects_fullMask.1 h, rfl⟩
  · exact ⟨.frameEnd, selects_fullMask.1 h, rfl⟩
  · exact ⟨.frameCheck, selects_fullMask.1 h, rfl⟩
  · exact ⟨.start, selects_fullMask.1 h, rfl⟩
  · exact ⟨.clear, selects_fullMask.1 h, rfl⟩

theorem exists_row_of_decode {w : Word} {i : Instr} (h : decode w = .ok i) :
    ∃ r ∈ opcodeTable, r.selects w = true ∧ r.mnemonic = i.mnemonic :=
  decode_eq_ok_iff.1 h ▸ exists_row_selects_encode i

/-- No word selects two rows: it encodes one command, whose mnemonic both rows bear. -/
theorem opcodeTable_disjoint {r r' : OpcodeRow} {w : Word} (hr : r ∈ opcodeTable) (hr' : r' ∈ opcodeTable)
    (h : r.selects w = true) (h' : r'.selects w = true) : r = r' := by
  obtain ⟨i, rfl, hi⟩ := exists_encode_of_selects hr h
  obtain ⟨j, hij, hj⟩ := exists_encode_of_selects hr' h'
  obtain rfl := encode_injective hij
  exact opcodeTable_mnemonic_injOn r hr r' hr' (hi.symm.trans hj)

theorem decode_error_of_no_row {w : Word} (h : ∀ r ∈ opcodeTable, r.selects w = false) : ∃ e, decode w = .error e := by
  cases hd : decode w with
  | error e => exact ⟨e, rfl⟩
  | ok i =>
    obtain ⟨r, hr, hs, -⟩ := exists_row_of_decode hd
    simp [h r hr] at hs

/-- Settles O2: a row selects exactly the encodings of the command it names, and the decoder accepts exactly the encodings. -/
theorem decodeAgreesWithOpcodeTable : Obligations.DecodeAgreesWithOpcodeTable := by
  unfold Obligations.DecodeAgreesWithOpcodeTable
  refine ⟨fun _ _ => exists_row_of_decode, fun w r hr h => ?_, fun _ _ _ => opcodeTable_disjoint,
    fun _ => decode_error_of_no_row⟩
  obtain ⟨i, hw, hi⟩ := exists_encode_of_selects hr h
  exact ⟨i, decode_eq_ok_iff.2 hw, hi⟩

/-! ## Well-formed fields -/

/-- The three checks of R90 and R91, on the fields. -/
theorem CommandFields.wf_iff (f : CommandFields) :
    f.wf = true ↔ f.rsv = 0#16 ∧
      f.op ∈ [0x00#8, 0x01#8, 0x02#8, 0x08#8, 0x09#8, 0x0A#8, 0x0B#8, 0x10#8, 0x11#8] ∧
      (f.op = 0x02#8 ∨ f.arg = 0#8) := by
  simp only [wf, rsvOk, opOk, argOk, Bool.and_eq_true, Bool.or_eq_true, beq_iff_eq, List.contains_iff_mem, and_assoc]

/-- Well-formed fields are some command's fields. -/
theorem exists_fieldsFor_of_wf {f : CommandFields} (h : f.wf = true) : ∃ i, f = fieldsFor i := by
  obtain ⟨op, arg, rsv⟩ := f
  obtain ⟨hrsv, hop, harg⟩ := (CommandFields.wf_iff _).1 h
  obtain rfl : rsv = 0#16 := hrsv
  by_cases h2 : op = 0x02#8
  · subst h2
    exact ⟨.crcByte arg, rfl⟩
  · obtain rfl : arg = 0#8 := harg.resolve_left h2
    simp only [List.mem_cons, List.not_mem_nil, or_false] at hop
    rcases hop with rfl | rfl | rfl | rfl | rfl | rfl | rfl | rfl | rfl
    · exact ⟨.nop, rfl⟩
    · exact ⟨.crcInit, rfl⟩
    · exact absurd rfl h2
    · exact ⟨.frameHdr, rfl⟩
    · exact ⟨.frameData, rfl⟩
    · exact ⟨.frameEnd, rfl⟩
    · exact ⟨.frameCheck, rfl⟩
    · exact ⟨.start, rfl⟩
    · exact ⟨.clear, rfl⟩

/-- A word is a command exactly if its fields are well formed (R93). -/
theorem exists_decode_ok_iff (w : Word) : (∃ i, decode w = .ok i) ↔ (fieldsOf w).wf = true := by
  simp only [decode, decodeFields_eq_ok_iff]
  refine ⟨fun ⟨i, h⟩ => ?_, exists_fieldsFor_of_wf⟩
  rw [h, fieldsFor_wf]

end Sys2Proof

namespace Sys2Proof.Machine

/-! ## Illegal words -/

/-- R93's list of illegal words is the complement of the well-formed fields. -/
theorem illegalWord_iff (w : Word) : illegalWord w ↔ ¬ (fieldsOf w).wf = true := by
  simp only [illegalWord, CommandFields.wf_iff, fieldsOf, not_and_or, not_or, ne_eq]

theorem not_illegalWord_iff (w : Word) : ¬ illegalWord w ↔ ∃ i, decode w = .ok i := by
  rw [illegalWord_iff, not_not, exists_decode_ok_iff]

/-- An illegal word is one the decoder refuses (R93). -/
theorem decode_error_of_illegalWord {w : Word} (h : illegalWord w) : ∃ e, decode w = .error e := by
  cases hd : decode w with
  | error e => exact ⟨e, rfl⟩
  | ok i => exact absurd h ((not_illegalWord_iff w).2 ⟨i, hd⟩)

theorem hostWrite_cmd (w : Word) (s : State) : hostWrite 0#32 w s = writeCmd w s :=
  hostWrite_register (r := .cmd) rfl w s

/-- A write of a refused word to CMD raises ILLEGAL, busy or not (R93, R232). -/
theorem writeCmd_of_error {w : Word} {e : IllegalWord} (h : decode w = .error e) (s : State) :
    writeCmd w s = .next (raiseCmdError .illegal s) := by
  simp only [writeCmd, h]

/-- An illegal word raises ILLEGAL and does nothing else (R93, R232). -/
theorem hostWrite_illegalWord {w : Word} (h : illegalWord w) (s : State) :
    hostWrite 0#32 w s = .next (raiseCmdError .illegal s) := by
  obtain ⟨e, he⟩ := decode_error_of_illegalWord h
  rw [hostWrite_cmd, writeCmd_of_error he]

/-- Settles O5: the decoder refuses exactly R93's illegal words, and a refused word's write raises ILLEGAL and nothing else. -/
theorem illegalWordOnlyRecordsError : Obligations.IllegalWordOnlyRecordsError := by
  unfold Obligations.IllegalWordOnlyRecordsError
  exact ⟨fun s w h => hostWrite_illegalWord h s, fun w => (not_illegalWord_iff w).1⟩

end Sys2Proof.Machine
end

section
/-! PROOF. The checksum (40_checksum.md R120 to R124): `crc16` on naturals and over XOR, and the two commands of the host's generator. -/

namespace Sys2Proof.Machine

open Sys2Proof.Config

/-! ## One round, by bit 15 -/

theorem and_highBit_ne_zero (a : Half) : a &&& 0x8000#16 ≠ 0#16 ↔ a.getLsbD 15 = true := by
  rw [show 0x8000#16 = BitVec.twoPow 16 15 from rfl, BitVec.and_twoPow]
  cases a.getLsbD 15 <;> decide

theorem nat_and_highBit_ne_zero (a : Nat) : a &&& 0x8000 ≠ 0 ↔ a.testBit 15 = true := by
  rw [show 0x8000 = 2 ^ 15 from rfl, Nat.and_two_pow]
  cases a.testBit 15 <;> decide

/-- What a round XORs in for the bit it shifts out: the polynomial or nothing. -/
def feedback (top : Bool) : Half := if top then poly else 0x0000#16

theorem feedback_xor (p q : Bool) : feedback (p ^^ q) = feedback p ^^^ feedback q := by
  cases p <;> cases q <;> decide

theorem crcRound_eq (a : Half) : crcRound a = (a <<< 1) ^^^ feedback (a.getLsbD 15) := by
  simp only [crcRound, and_highBit_ne_zero, feedback]
  cases a.getLsbD 15 <;> simp

theorem roundUnmasked_eq (a : Nat) : roundUnmasked a = (a <<< 1) ^^^ (feedback (a.testBit 15)).toNat := by
  simp only [roundUnmasked, nat_and_highBit_ne_zero, feedback]
  cases a.testBit 15 <;> simp [poly]

/-! ## The update on naturals (R120, R121) -/

/-- R120's mask keeps the low 16 bits of the source's round. -/
theorem roundMasked_eq (a : Nat) : roundMasked a = roundUnmasked a % 2 ^ 16 := by
  rw [← Nat.and_two_pow_sub_one_eq_mod]
  unfold roundMasked roundUnmasked
  split <;> rfl

/-- A round on naturals acts on the low 16 bits as the model's round does, whatever stands above them. -/
theorem ofNat_roundUnmasked (a : Nat) : BitVec.ofNat 16 (roundUnmasked a) = crcRound (BitVec.ofNat 16 a) := by
  have hbit : (BitVec.ofNat 16 a).getLsbD 15 = a.testBit 15 := by rw [BitVec.getLsbD_ofNat]; simp
  have hshift : BitVec.ofNat 16 (a <<< 1) = BitVec.ofNat 16 a <<< 1 :=
    BitVec.eq_of_toNat_eq (by simp [Nat.shiftLeft_eq])
  rw [roundUnmasked_eq, crcRound_eq, hbit, BitVec.ofNat_xor, hshift, BitVec.ofNat_toNat, BitVec.setWidth_eq]

/-- Rounds without a mask agree with the model's rounds on the low 16 bits (R121). -/
theorem ofNat_iterate_roundUnmasked (n a : Nat) :
    BitVec.ofNat 16 (roundUnmasked^[n] a) = crcRounds n (BitVec.ofNat 16 a) := by
  induction n generalizing a with
  | zero => rfl
  | succ n ih => rw [Function.iterate_succ_apply, ih, ofNat_roundUnmasked, crcRounds]

theorem crcRound_toNat (a : Half) : (crcRound a).toNat = roundMasked a.toNat := by
  rw [roundMasked_eq, ← BitVec.toNat_ofNat, ofNat_roundUnmasked, BitVec.ofNat_toNat, BitVec.setWidth_eq]

theorem crcRounds_toNat (n : Nat) (a : Half) : (crcRounds n a).toNat = roundMasked^[n] a.toNat := by
  induction n generalizing a with
  | zero => rfl
  | succ n ih => rw [crcRounds, ih, crcRound_toNat, Function.iterate_succ_apply]

/-- Bringing the byte into the high octet, on naturals. -/
theorem xor_highOctet_toNat (acc : Half) (b : Byte) :
    (acc ^^^ (b.setWidth 16 <<< 8)).toNat = acc.toNat ^^^ (b.toNat <<< 8) := by
  have hb : b.toNat <<< 8 < 2 ^ 16 := by rw [Nat.shiftLeft_eq]; omega
  rw [BitVec.toNat_xor, BitVec.toNat_shiftLeft, BitVec.toNat_setWidth_of_le (by omega), Nat.mod_eq_of_lt hb]

/-- The model's update is R120's pseudocode. -/
theorem crcUpdate_toNat (acc : Half) (b : Byte) : (crcUpdate acc b).toNat = crcUpdateMasked acc.toNat b.toNat := by
  rw [crcUpdate, crcRounds_toNat, xor_highOctet_toNat, crcUpdateMasked]

/-- The model's update is the source's one-mask form (R121). -/
theorem crcUpdateMaskedOnce_eq (acc : Half) (b : Byte) :
    crcUpdateMaskedOnce acc.toNat b.toNat = (crcUpdate acc b).toNat := by
  rw [crcUpdateMaskedOnce, ← xor_highOctet_toNat, show 0xFFFF = 2 ^ 16 - 1 from rfl, Nat.and_two_pow_sub_one_eq_mod,
    ← BitVec.toNat_ofNat, ofNat_iterate_roundUnmasked, BitVec.ofNat_toNat, BitVec.setWidth_eq, crcUpdate]

/-! ## crc16 over sequences -/

@[simp] theorem crc16_nil : crc16 [] = 0x0000#16 := rfl

@[simp] theorem crc16_concat (bs : List Byte) (b : Byte) : crc16 (bs ++ [b]) = crcUpdate (crc16 bs) b := by
  simp [crc16]

/-- Settles O6: each round on naturals is the model's round on the low 16 bits, so both maskings give the model's update; the check value by evaluation. -/
theorem crcUpdateIsTheReferenceAlgorithm : Obligations.CrcUpdateIsTheReferenceAlgorithm := by
  unfold Obligations.CrcUpdateIsTheReferenceAlgorithm
  exact ⟨fun acc b => ⟨crcUpdate_toNat acc b, (crcUpdateMaskedOnce_eq acc b).trans (crcUpdate_toNat acc b)⟩,
    crc16_nil, crc16_concat, by decide +kernel⟩

/-! ## Linearity over XOR (R122) -/

theorem crcRound_xor (a b : Half) : crcRound (a ^^^ b) = crcRound a ^^^ crcRound b := by
  simp only [crcRound_eq, BitVec.shiftLeft_xor_distrib, BitVec.getLsbD_xor, feedback_xor]
  ac_rfl

theorem crcRounds_xor (n : Nat) (a b : Half) : crcRounds n (a ^^^ b) = crcRounds n a ^^^ crcRounds n b := by
  induction n generalizing a b with
  | zero => rfl
  | succ n ih => rw [crcRounds, crcRound_xor, ih, crcRounds, crcRounds]

/-- The update is linear in the accumulator and the byte together. -/
theorem crcUpdate_xor (a a' : Half) (b b' : Byte) :
    crcUpdate (a ^^^ a') (b ^^^ b') = crcUpdate a b ^^^ crcUpdate a' b' := by
  simp only [crcUpdate, ← crcRounds_xor, BitVec.setWidth_xor, BitVec.shiftLeft_xor_distrib]
  congr 1
  ac_rfl

/-- Linearity from any two starting values, as the induction over the sequences needs it. -/
theorem foldl_crcUpdate_xorBytes (a a' : Half) {s t : List Byte} (h : s.length = t.length) :
    (xorBytes s t).foldl crcUpdate (a ^^^ a') = s.foldl crcUpdate a ^^^ t.foldl crcUpdate a' := by
  induction s generalizing a a' t with
  | nil => cases t with
    | nil => rfl
    | cons y ys => simp at h
  | cons x xs ih => cases t with
    | nil => simp at h
    | cons y ys =>
      have hstep := ih (crcUpdate a x) (crcUpdate a' y) (Nat.succ.inj h)
      rwa [← crcUpdate_xor] at hstep

theorem crc16_xorBytes {s t : List Byte} (h : s.length = t.length) :
    crc16 (xorBytes s t) = crc16 s ^^^ crc16 t :=
  foldl_crcUpdate_xorBytes crcInitValue crcInitValue h

/-- A zero byte leaves the zero accumulator. -/
theorem crc16_replicate_zero (n : Nat) : crc16 (List.replicate n 0x00#8) = 0x0000#16 := by
  induction n with
  | zero => rfl
  | succ n ih => rw [List.replicate_succ', crc16_concat, ih]; decide

/-- Settles O7: linearity by that of a round, of the 8 rounds and of the update; the rule's three table entries by evaluation. -/
theorem crcIsLinear : Obligations.CrcIsLinear := by
  unfold Obligations.CrcIsLinear
  exact ⟨crc16_nil, crc16_replicate_zero, fun _ => rfl, by decide, by decide, by decide, fun _ _ => crc16_xorBytes⟩

/-! ## The two commands (R123, R124) -/

/-- A word that has the opcode of a command without an operand, but is not that command's word, is illegal (R93). -/
theorem illegalWord_of_op {op : Byte} {w : Word} (hop : w.extractLsb' 0 8 = op) (hop2 : op ≠ 0x02#8)
    (hw : w ≠ wordOf ⟨op, 0x00#8, 0x0000#16⟩) : illegalWord w := by
  by_cases hrsv : w.extractLsb' 16 16 = 0#16
  · refine .inr (.inr ⟨hop ▸ hop2, fun harg => hw ?_⟩)
    rw [← wordOf_fieldsOf w, fieldsOf, hop, harg, hrsv]
  · exact .inl hrsv

theorem exec_crcInit (s : State) : exec .crcInit s = .next { s with acc := 0x0000#16 } := rfl

theorem exec_crcByte (s : State) (b : Byte) : exec (.crcByte b) s = .next { s with acc := crcUpdate s.acc b } := rfl

theorem execAll_cons_of_next {s t : State} {i : Instr} (h : exec i s = .next t) (is : List Instr) :
    execAll s (i :: is) = execAll t is := by
  rw [execAll, h]

/-- CRC_BYTE of each byte of a sequence folds the update over it. -/
theorem execAll_crcByte (s : State) (bs : List Byte) :
    execAll s (bs.map Instr.crcByte) = .next { s with acc := bs.foldl crcUpdate s.acc } := by
  induction bs generalizing s with
  | nil => rfl
  | cons b bs ih => rw [List.map_cons, execAll_cons_of_next (exec_crcByte s b), ih, List.foldl_cons]

/-- Settles O9: one CRC_BYTE is one update, a sequence of them a fold; a word with RSV not 0 is illegal. -/
theorem crcByteFeedsAcc : Obligations.CrcByteFeedsAcc := by
  unfold Obligations.CrcByteFeedsAcc
  refine ⟨fun _ => rfl, exec_crcByte, fun s w _ hrsv => ⟨hostWrite_illegalWord (.inl hrsv) s, raiseCmdError_acc _ s⟩,
    fun s bs => ?_, by decide⟩
  rw [execAll_cons_of_next (exec_crcInit s), execAll_crcByte]
  rfl

/-- Settles O8: the command's one effect, and any other word with its opcode is illegal. -/
theorem crcInitClearsAcc : Obligations.CrcInitClearsAcc := by
  unfold Obligations.CrcInitClearsAcc
  exact ⟨rfl, exec_crcInit, fun s w hop hw =>
    ⟨hostWrite_illegalWord (illegalWord_of_op hop (by decide) hw) s, raiseCmdError_acc _ s⟩⟩

end Sys2Proof.Machine
end

section
/-! PROOF. The frames (41_framing.md R140 to R151): a frame's layout, decimal numbers, the four frame commands, and the data blocks of a buffer. -/

namespace Sys2Proof.Machine

open Sys2Proof.Config

/-! ## The layout of a frame (R140, R103) -/

/-- The complement of a block number is the bitwise one (R103). -/
theorem complement_eq_xor (num : Byte) : 255#8 - num = num ^^^ 0xFF#8 := by
  rw [show 255#8 = BitVec.allOnes 8 from rfl, BitVec.allOnes_sub_eq_not, BitVec.xor_allOnes]

theorem frame_drop_header (num : Byte) (p : List Byte) :
    (frame num p).drop 3 = p ++ [(crc16 p).extractLsb' 8 8, (crc16 p).extractLsb' 0 8] := rfl

theorem frame_payload (num : Byte) {p : List Byte} (h : p.length = 128) : ((frame num p).drop 3).take 128 = p := by
  rw [frame_drop_header, List.take_left' h]

/-- A frame ends with its payload's CRC, high byte first. -/
theorem frame_drop_payload (num : Byte) {p : List Byte} (h : p.length = 128) :
    (frame num p).drop 131 = [(crc16 p).extractLsb' 8 8, (crc16 p).extractLsb' 0 8] := by
  rw [show 131 = 3 + 128 from rfl, ← List.drop_drop, frame_drop_header, List.drop_left' h]

theorem frame_crcHigh (num : Byte) {p : List Byte} (h : p.length = 128) :
    (frame num p)[131]? = some ((crc16 p).extractLsb' 8 8) := by
  rw [← Nat.add_zero 131, ← List.getElem?_drop, frame_drop_payload num h]
  rfl

theorem frame_crcLow (num : Byte) {p : List Byte} (h : p.length = 128) :
    (frame num p)[132]? = some ((crc16 p).extractLsb' 0 8) := by
  rw [show 132 = 131 + 1 from rfl, ← List.getElem?_drop, frame_drop_payload num h]
  rfl

/-- Settles O11: the header's three bytes stand before the payload and the CRC behind it; the lengths are those of the three payloads. -/
theorem frameLayout : Obligations.FrameLayout := by
  unfold Obligations.FrameLayout
  exact ⟨fun num p h => ⟨frame_length num h, rfl, rfl, rfl, complement_eq_xor num, frame_payload num h,
      frame_crcHigh num h, frame_crcLow num h⟩,
    fun _ _ => headerPayload_length, fun _ _ _ => dataPayload_length, endPayload_length⟩

/-! ## Decimal numbers (R141) -/

/-- The byte of one decimal digit. -/
def asciiDigit (d : Nat) : Byte := BitVec.ofNat 8 (0x30 + d)

/-- The number spelled so far, with one more digit behind it. -/
def pushDigit (v : Nat) (d : Byte) : Nat := v * 10 + (d.toNat - 0x30)

theorem decimalValue_eq_foldl (ds : List Byte) : decimalValue ds = ds.foldl pushDigit 0 := rfl

theorem asciiDigit_toNat {d : Nat} (h : d < 10) : (asciiDigit d).toNat = 0x30 + d := by
  rw [asciiDigit, BitVec.toNat_ofNat, Nat.mod_eq_of_lt (by omega)]

theorem asciiDigit_bounds {d : Nat} (h : d < 10) : 0x30#8 ≤ asciiDigit d ∧ asciiDigit d ≤ 0x39#8 := by
  simp only [BitVec.le_def, asciiDigit_toNat h, BitVec.toNat_ofNat]
  omega

theorem pushDigit_asciiDigit (v : Nat) {d : Nat} (h : d < 10) : pushDigit v (asciiDigit d) = v * 10 + d := by
  rw [pushDigit, asciiDigit_toNat h, Nat.add_sub_cancel_left]

/-- The last digit of a number below 10 is the number. -/
theorem decimalDigits_of_lt {v : Nat} (h : v < 10) (fuel : Nat) (done : List Byte) :
    decimalDigits (fuel + 1) v done = asciiDigit v :: done := if_pos h

/-- A longer number is cut at its last digit. -/
theorem decimalDigits_of_le {v : Nat} (h : 10 ≤ v) (fuel : Nat) (done : List Byte) :
    decimalDigits (fuel + 1) v done = decimalDigits fuel (v / 10) (asciiDigit (v % 10) :: done) :=
  if_neg (Nat.not_lt.2 h)

theorem div_ten_lt_pow {v fuel : Nat} (h : v < 10 ^ (fuel + 1)) : v / 10 < 10 ^ fuel :=
  Nat.div_lt_of_lt_mul (by rwa [Nat.pow_succ'] at h)

/-- With enough fuel the digits put before `done` spell `v`. -/
theorem foldl_pushDigit_decimalDigits {fuel v : Nat} (done : List Byte) (h : v < 10 ^ fuel) :
    (decimalDigits fuel v done).foldl pushDigit 0 = done.foldl pushDigit v := by
  induction fuel generalizing v done with
  | zero => rw [show v = 0 by simpa using h, decimalDigits]
  | succ fuel ih =>
    rcases Nat.lt_or_ge v 10 with hv | hv
    · rw [decimalDigits_of_lt hv, List.foldl_cons, pushDigit_asciiDigit 0 hv, Nat.zero_mul, Nat.zero_add]
    · rw [decimalDigits_of_le hv, ih _ (div_ten_lt_pow h), List.foldl_cons,
        pushDigit_asciiDigit _ (Nat.mod_lt v (by omega)), Nat.div_add_mod']

theorem decimalDigits_bounds {fuel v : Nat} {done : List Byte} (h : ∀ d ∈ done, 0x30#8 ≤ d ∧ d ≤ 0x39#8) :
    ∀ d ∈ decimalDigits fuel v done, 0x30#8 ≤ d ∧ d ≤ 0x39#8 := by
  induction fuel generalizing v done with
  | zero => exact h
  | succ fuel ih =>
    rcases Nat.lt_or_ge v 10 with hv | hv
    · rw [decimalDigits_of_lt hv]
      exact List.forall_mem_cons.2 ⟨asciiDigit_bounds hv, h⟩
    · rw [decimalDigits_of_le hv]
      exact ih (List.forall_mem_cons.2 ⟨asciiDigit_bounds (Nat.mod_lt v (by omega)), h⟩)

/-- With enough fuel the first digit of a number that is not 0 is not 0. -/
theorem decimalDigits_head {fuel v : Nat} (done : List Byte) (h : v < 10 ^ fuel) (h0 : v ≠ 0) :
    ∃ d, d ≠ 0 ∧ d < 10 ∧ (decimalDigits fuel v done).head? = some (asciiDigit d) := by
  induction fuel generalizing v done with
  | zero => exact absurd (by simpa using h) h0
  | succ fuel ih =>
    rcases Nat.lt_or_ge v 10 with hv | hv
    · exact ⟨v, h0, hv, by rw [decimalDigits_of_lt hv, List.head?_cons]⟩
    · rw [decimalDigits_of_le hv]
      exact ih _ (div_ten_lt_pow h) (by omega)

/-- Ten digits are enough for a 32-bit number. -/
theorem word_lt_ten_pow (v : Word) : v.toNat < 10 ^ 10 := lt_trans v.isLt (by decide)

theorem decimal_zero : decimal 0#32 = [0x30#8] := rfl

theorem decimalValue_decimal (v : Word) : decimalValue (decimal v) = v.toNat := by
  rw [decimalValue_eq_foldl, decimal, foldl_pushDigit_decimalDigits _ (word_lt_ten_pow v), List.foldl_nil]

theorem decimal_head {v : Word} (h : v ≠ 0#32) :
    ∃ d, d ≠ 0 ∧ d < 10 ∧ (decimal v).head? = some (asciiDigit d) :=
  decimalDigits_head [] (word_lt_ten_pow v) (fun h0 => h (BitVec.eq_of_toNat_eq h0))

theorem decimal_length_pos (v : Word) : 1 ≤ (decimal v).length := by
  rcases eq_or_ne v 0#32 with rfl | h
  · rw [decimal_zero, List.length_singleton]
  · obtain ⟨d, -, -, hd⟩ := decimal_head h
    exact List.length_pos_of_mem (List.mem_of_mem_head? hd)

theorem decimal_no_leading_zero {v : Word} (h : v ≠ 0#32) : (decimal v).head? ≠ some 0x30#8 := by
  obtain ⟨d, h0, hlt, hd⟩ := decimal_head h
  rw [hd]
  intro hz
  have hn := congrArg BitVec.toNat (Option.some.inj hz)
  rw [asciiDigit_toNat hlt, BitVec.toNat_ofNat] at hn
  omega

/-- Settles O12, by what the loop over the digits keeps: the value, the digits' range and the first digit. -/
theorem decimalSpellsNumber : Obligations.DecimalSpellsNumber := by
  unfold Obligations.DecimalSpellsNumber
  exact fun v => ⟨decimalValue_decimal v, decimal_length_pos v, decimal_length v,
    decimalDigits_bounds (List.forall_mem_nil _), decimal_no_leading_zero, decimal_zero⟩

/-! ## The number of blocks (R145) -/

theorem le_totalBlocks_mul (n : Nat) : n ≤ totalBlocks n * 128 := by
  rw [totalBlocks]
  omega

theorem totalBlocks_mul_lt (n : Nat) : totalBlocks n * 128 < n + 128 := by
  rw [totalBlocks]
  omega

/-- Settles O13: the two bounds of a ceiling, and the rule's four values. -/
theorem totalBlocksIsCeiling : Obligations.TotalBlocksIsCeiling := by
  unfold Obligations.TotalBlocksIsCeiling
  exact ⟨fun n => ⟨le_totalBlocks_mul n, totalBlocks_mul_lt n⟩, rfl, rfl, rfl, rfl⟩

/-! ## What the frame commands share -/

/-- A word with the opcode of a command without an operand that is not that command's word raises ILLEGAL (R93, R232). -/
theorem hostWrite_of_illFormed {op : Byte} {w : Word} (hop2 : op ≠ 0x02#8) (hop : w.extractLsb' 0 8 = op)
    (hw : w ≠ wordOf ⟨op, 0x00#8, 0x0000#16⟩) (s : State) : hostWrite 0#32 w s = .next (raiseCmdError .illegal s) :=
  hostWrite_illegalWord (illegalWord_of_op hop hop2 hw) s

/-- A command that stores a frame changes the bytes of FRAME and nothing else (R41). -/
theorem exists_stored_of_storeFrame {s : State} {out : Host.Outcome State Fault Refusal} {f : List Byte}
    (h : out = .next (storeFrame f s)) :
    ∃ t, out = .next t ∧ t = { s with mem := t.mem } ∧ s.mem.stored t.mem 0x200 f :=
  ⟨_, h, rfl, Memory.writeRange_stored ..⟩

/-! ## FRAME_HDR (R142, R146) -/

theorem headerText_eq (name : List Byte) (len : Word) :
    headerText name len = name ++ [0x00#8] ++ decimal len ++
      List.replicate (128 - (name.length + 1 + (decimal len).length)) 0x00#8 := by
  simp only [headerText, padBlock, hdrPad, blockSize, List.length_append, List.length_singleton]

theorem headerPayload_of_holds {s : State} {name : List Byte} (hl : name.length = min s.nameLen.toNat 64)
    (h : s.mem.holds 0x100 name) : headerPayload s = .ok (headerText name s.len) := by
  have hn : nameBytes s = .ok name := Memory.readRange_ok_iff.2 ⟨hl, h⟩
  rw [headerPayload, hn]

theorem headerPayload_of_lacks {s : State} (h : s.mem.lacks 0x100 (min s.nameLen.toNat 64)) :
    ∃ a, headerPayload s = .error a ∧ s.mem.read a = none := by
  obtain ⟨a, ha, hr⟩ := Memory.readRange_of_lacks h
  have hn : nameBytes s = .error a := ha
  exact ⟨a, by rw [headerPayload, hn], hr⟩

theorem execFrameHdr_of_ok {s : State} {p : List Byte} (hb : s.busy = false) (h : headerPayload s = .ok p) :
    execFrameHdr s = .next (storeFrame (frame 0x00#8 p) s) := by
  rw [execFrameHdr, unlessBusy_of_idle _ hb, h]

theorem execFrameHdr_of_error {s : State} {a : Nat} (hb : s.busy = false) (h : headerPayload s = .error a) :
    execFrameHdr s = .fault (.unwrittenByte a) := by
  rw [execFrameHdr, unlessBusy_of_idle _ hb, h]

/-- Settles O14, by whether the name bytes hold values. -/
theorem frameHdrBuildsHeader : Obligations.FrameHdrBuildsHeader := by
  unfold Obligations.FrameHdrBuildsHeader
  refine ⟨rfl, fun s => ⟨unlessBusy_of_busy _, fun name hb hl hm => ?_, fun hb hm => ?_⟩,
    fun s w hop hw => ⟨hostWrite_of_illFormed (by decide) hop hw s, raiseCmdError_mem _ s⟩⟩
  · rw [← headerText_eq]
    exact exists_stored_of_storeFrame (execFrameHdr_of_ok hb (headerPayload_of_holds hl hm))
  · obtain ⟨a, ha, hr⟩ := headerPayload_of_lacks hm
    exact ⟨a, execFrameHdr_of_error hb ha, hr⟩

/-! ## FRAME_DATA (R143, R147) -/

theorem padBlock_dataPad (bytes : List Byte) :
    padBlock dataPad bytes = bytes ++ List.replicate (128 - bytes.length) 0x1A#8 := rfl

theorem dataPayload_of_holds {s : State} {n : Nat} {bytes : List Byte}
    (hl : bytes.length = min (n * 128) s.len.toNat - (n - 1) * 128)
    (h : s.mem.holds (0x10000 + (n - 1) * 128) bytes) : dataPayload s n = .ok (padBlock dataPad bytes) := by
  have hs : payloadSlice s n = .ok bytes := Memory.readRange_ok_iff.2 ⟨hl, h⟩
  rw [dataPayload, hs]

theorem dataPayload_of_lacks {s : State} {n : Nat}
    (h : s.mem.lacks (0x10000 + (n - 1) * 128) (min (n * 128) s.len.toNat - (n - 1) * 128)) :
    ∃ a, dataPayload s n = .error a ∧ s.mem.read a = none := by
  obtain ⟨a, ha, hr⟩ := Memory.readRange_of_lacks h
  have hs : payloadSlice s n = .error a := ha
  exact ⟨a, by rw [dataPayload, hs], hr⟩

theorem execFrameData_of_lenRange {s : State} (hb : s.busy = false) (hl : s.params.payloadMax < s.len) :
    execFrameData s = .next (raiseCmdError .lenRange s) := by
  rw [execFrameData, unlessBusy_of_idle _ hb, if_pos hl]

theorem execFrameData_of_argRange {s : State} (hb : s.busy = false) (hl : s.len ≤ s.params.payloadMax)
    (hf : s.fbIdx = 0#32) : execFrameData s = .next (raiseCmdError .argRange s) := by
  rw [execFrameData, unlessBusy_of_idle _ hb, if_neg (BitVec.not_lt.2 hl), if_pos hf]

theorem execFrameData_of_ok {s : State} {p : List Byte} (hb : s.busy = false) (hl : s.len ≤ s.params.payloadMax)
    (hf : s.fbIdx ≠ 0#32) (h : dataPayload s s.fbIdx.toNat = .ok p) :
    execFrameData s = .next (storeFrame (frame (BitVec.ofNat 8 (s.fbIdx.toNat % 256)) p) s) := by
  rw [execFrameData, unlessBusy_of_idle _ hb, if_neg (BitVec.not_lt.2 hl), if_neg hf, h]

theorem execFrameData_of_error {s : State} {a : Nat} (hb : s.busy = false) (hl : s.len ≤ s.params.payloadMax)
    (hf : s.fbIdx ≠ 0#32) (h : dataPayload s s.fbIdx.toNat = .error a) :
    execFrameData s = .fault (.unwrittenByte a) := by
  rw [execFrameData, unlessBusy_of_idle _ hb, if_neg (BitVec.not_lt.2 hl), if_neg hf, h]

/-- Settles O15: the three errors in their order, then by whether the slice's bytes hold values. -/
theorem frameDataBuildsBlock : Obligations.FrameDataBuildsBlock := by
  unfold Obligations.FrameDataBuildsBlock
  refine ⟨rfl, fun s => ⟨unlessBusy_of_busy _, execFrameData_of_lenRange, execFrameData_of_argRange,
      fun bytes hb hl hf hn hm => ?_, fun hb hl hf hm => ?_⟩,
    fun s w hop hw => ⟨hostWrite_of_illFormed (by decide) hop hw s, raiseCmdError_mem _ s⟩⟩
  · rw [← padBlock_dataPad]
    exact exists_stored_of_storeFrame (execFrameData_of_ok hb hl hf (dataPayload_of_holds hn hm))
  · obtain ⟨a, ha, hr⟩ := dataPayload_of_lacks hm
    exact ⟨a, execFrameData_of_error hb hl hf ha, hr⟩

/-! ## FRAME_END (R144, R148) -/

/-- The end-of-batch frame's CRC is that of 128 zero bytes, 0. -/
theorem frame_endPayload :
    frame 0x00#8 endPayload = [0x01#8, 0x00#8, 0xFF#8] ++ List.replicate 128 0x00#8 ++ [0x00#8, 0x00#8] := by
  rw [frame, endPayload, crc16_replicate_zero]
  rfl

theorem execFrameEnd_of_idle {s : State} (hb : s.busy = false) :
    execFrameEnd s = .next (storeFrame (frame 0x00#8 endPayload) s) := unlessBusy_of_idle _ hb

/-- Settles O16, by the end-of-batch frame's bytes. -/
theorem frameEndBuildsEndFrame : Obligations.FrameEndBuildsEndFrame := by
  unfold Obligations.FrameEndBuildsEndFrame
  refine ⟨rfl, fun s => ⟨unlessBusy_of_busy _, fun hb => ?_⟩,
    fun s w hop hw => ⟨hostWrite_of_illFormed (by decide) hop hw s, raiseCmdError_mem _ s⟩⟩
  rw [← frame_endPayload]
  exact exists_stored_of_storeFrame (execFrameEnd_of_idle hb)

/-! ## FRAME_CHECK (R149) -/

theorem frameBytes_of_holds {s : State} {f : List Byte} (hl : f.length = 133) (h : s.mem.holds 0x200 f) :
    frameBytes s = .ok f := Memory.readRange_ok_iff.2 ⟨hl, h⟩

theorem execFrameCheck_of_ok {s : State} {f : List Byte} (hb : s.busy = false) (h : frameBytes s = .ok f) :
    execFrameCheck s = .next { s with chkRes := checkFrame f s.fbIdx } := by
  rw [execFrameCheck, unlessBusy_of_idle _ hb, h]

theorem execFrameCheck_of_error {s : State} {a : Nat} (hb : s.busy = false) (h : frameBytes s = .error a) :
    execFrameCheck s = .fault (.unwrittenByte a) := by
  rw [execFrameCheck, unlessBusy_of_idle _ hb, h]

/-- Two bytes, the high one first, as a number. -/
theorem append_toNat (hi lo : Byte) : (hi ++ lo).toNat = hi.toNat * 256 + lo.toNat := by
  rw [BitVec.toNat_append, ← Nat.shiftLeft_add_eq_or_of_lt lo.isLt, Nat.shiftLeft_eq]

theorem eq_complement_iff (c num : Byte) : c = 255#8 - num ↔ c.toNat = 255 - num.toNat := by
  bv_omega

/-- CHKRES with its checks on numbers, as R149 words them. -/
theorem checkFrame_eq (f : List Byte) (fb : Word) :
    checkFrame f fb = chkResWord (crc16 ((f.drop 3).take 128)) (f.getD 1 0#8)
      (decide ((f.getD 1 0#8).toNat = fb.toNat % 256))
      (decide ((f.getD 131 0#8).toNat * 256 + (f.getD 132 0#8).toNat = (crc16 ((f.drop 3).take 128)).toNat))
      (decide ((f.getD 2 0#8).toNat = 255 - (f.getD 1 0#8).toNat))
      (decide (f.getD 0 0#8 = 0x01#8)) := by
  simp only [← append_toNat, ← eq_complement_iff, ← BitVec.toNat_eq]
  rfl

theorem getElem?_eq_some_getD {f : List Byte} {i : Nat} (h : i < f.length) : some (f.getD i 0#8) = f[i]? := by
  rw [List.getD_eq_getElem _ _ h, List.getElem?_eq_getElem h]

/-- Settles O17, by whether FRAME's bytes hold values, and the fields of the CHKRES word. -/
theorem frameCheckValidates : Obligations.FrameCheckValidates := by
  unfold Obligations.FrameCheckValidates
  refine ⟨rfl, fun s => ⟨unlessBusy_of_busy _, fun f hb hl hm => ?_, fun hb hm => ?_⟩,
    fun s w hop hw => ⟨hostWrite_of_illFormed (by decide) hop hw s, raiseCmdError_chkRes _ s⟩⟩
  · refine ⟨_, execFrameCheck_of_ok hb (frameBytes_of_holds hl hm), rfl, ?_⟩
    have h1 : some (f.getD 1 0#8) = f[1]? := getElem?_eq_some_getD (by omega)
    simp only [checkFrame_eq, chkResWord_crcCalc, chkResWord_blkNum, chkResWord_reserved, chkResWord_seqOk,
      chkResWord_crcOk, chkResWord_complOk, chkResWord_markerOk, chkResWord_valid, h1, and_self]
  · obtain ⟨a, ha, hr⟩ := Memory.readRange_of_lacks hm
    exact ⟨a, execFrameCheck_of_error hb ha, hr⟩

/-! ## A buffer's data blocks (R143, R151) -/

/-- The bytes of `buf` that go into the data block with `k` blocks before it. -/
def bufferBlock (buf : List Byte) (k : Nat) : List Byte := (buf.drop (k * 128)).take 128

/-- The payloads of the first `n` data blocks. -/
def blockPayloads (buf : List Byte) (n : Nat) : List (List Byte) :=
  (List.range n).map fun k => padBlock dataPad (bufferBlock buf k)

theorem blockPayloads_length (buf : List Byte) (n : Nat) : (blockPayloads buf n).length = n := by
  rw [blockPayloads, List.length_map, List.length_range]

theorem bufferBlock_zero (buf : List Byte) : bufferBlock buf 0 = buf.take 128 := by
  rw [bufferBlock, Nat.zero_mul, List.drop_zero]

theorem bufferBlock_succ (buf : List Byte) (k : Nat) : bufferBlock buf (k + 1) = bufferBlock (buf.drop 128) k := by
  rw [bufferBlock, bufferBlock, List.drop_drop, Nat.add_mul, Nat.add_comm, Nat.one_mul]

theorem blockPayloads_succ (buf : List Byte) (n : Nat) :
    blockPayloads buf (n + 1) = padBlock dataPad (buf.take 128) :: blockPayloads (buf.drop 128) n := by
  simp only [blockPayloads, List.range_succ_eq_map, List.map_cons, List.map_map, Function.comp_def, bufferBlock_zero,
    Nat.succ_eq_add_one, bufferBlock_succ]

theorem padBlock_of_full (x : Byte) {bs : List Byte} (h : bs.length = 128) : padBlock x bs = bs := by
  rw [padBlock, h, blockSize, Nat.sub_self, List.replicate_zero, List.append_nil]

/-- Enough blocks, one after another, begin with the buffer: only the last of them is padded. -/
theorem prefix_flatten_blockPayloads {buf : List Byte} {n : Nat} (h : buf.length ≤ n * 128) :
    buf <+: (blockPayloads buf n).flatten := by
  induction n generalizing buf with
  | zero =>
    rw [List.length_eq_zero_iff.1 (by omega : buf.length = 0)]
    exact List.nil_prefix
  | succ n ih =>
    rw [blockPayloads_succ, List.flatten_cons]
    rcases Nat.le_total buf.length 128 with hl | hl
    · rw [List.take_of_length_le hl, padBlock, List.append_assoc]
      exact List.prefix_append ..
    · rw [padBlock_of_full _ (List.length_take_of_le hl)]
      have hrest : buf.drop 128 <+: (blockPayloads (buf.drop 128) n).flatten := ih (by rw [List.length_drop]; omega)
      calc buf = buf.take 128 ++ buf.drop 128 := (List.take_append_drop 128 buf).symm
        _ <+: _ := (List.prefix_append_right_inj _).2 hrest

/-- What memory holds of a list it holds of any part of the list, at the part's place. -/
theorem Memory.holds_drop_take {m : Memory} {a : Nat} {bs : List Byte} (h : m.holds a bs) (i n : Nat) :
    m.holds (a + i) ((bs.drop i).take n) := by
  intro j hj
  rw [List.length_take, List.length_drop] at hj
  rw [Nat.add_assoc, h (i + j) (by omega), List.getElem?_take_of_lt (by omega), List.getElem?_drop]

/-- The payload of a data block of a buffer that PAYLOAD holds. -/
theorem dataPayload_of_buffer {s : State} {buf : List Byte} (hl : buf.length = s.len.toNat)
    (hm : s.mem.holds 0x10000 buf) (k : Nat) :
    dataPayload s (k + 1) = .ok (padBlock dataPad (bufferBlock buf k)) := by
  refine dataPayload_of_holds ?_ (Memory.holds_drop_take hm (k * 128) 128)
  rw [bufferBlock, List.length_take, List.length_drop, hl, Nat.add_sub_cancel]
  omega

theorem dataFrame_of_ok {s : State} {n : Nat} {p : List Byte} (h : dataPayload s n = .ok p) (num : Byte) :
    dataFrame s num n = .ok (frame num p) := by
  rw [dataFrame, h]

theorem blockPayloads_getElem? {buf p : List Byte} {n k : Nat} (h : (blockPayloads buf n)[k]? = some p) :
    p = padBlock dataPad (bufferBlock buf k) := by
  obtain ⟨hk, rfl⟩ := List.getElem?_eq_some_iff.1 h
  simp only [blockPayloads, List.getElem_map, List.getElem_range]

/-- Settles O20: the blocks' payloads are the buffer's parts, and one after another they begin with it. -/
theorem blocksReassembleBuffer : Obligations.BlocksReassembleBuffer := by
  unfold Obligations.BlocksReassembleBuffer
  refine fun s buf _ hl hm => ⟨blockPayloads buf (totalBlocks buf.length), blockPayloads_length .., fun k p hp => ?_, ?_⟩
  · obtain rfl := blockPayloads_getElem? hp
    have hd := dataPayload_of_buffer hl hm k
    exact ⟨hd, fun num => ⟨dataFrame_of_ok hd num, frame_drop_payload num (dataPayload_length (by omega) hd)⟩⟩
  · exact (List.prefix_iff_eq_take.1 (prefix_flatten_blockPayloads (le_totalBlocks_mul _))).symm

end Sys2Proof.Machine
end

section
/-! PROOF. The sender session (42_sender.md R170 to R193, R212 to R214): the three control commands, the engine's turn and the tick by the state's role, and the transitions state by state. -/

namespace Sys2Proof.Machine

open Sys2Proof.Config

/-! ## The control commands (R170 to R172) -/

theorem exec_nop (s : State) : exec .nop s = .next s := rfl

theorem execStart_of_lenRange {s : State} (hb : s.busy = false) (hl : s.params.payloadMax < s.len) :
    execStart s = .next (raiseCmdError .lenRange s) := by
  rw [execStart, unlessBusy_of_idle _ hb, if_pos hl]

theorem execStart_of_fits {s : State} (hb : s.busy = false) (hl : s.len ≤ s.params.payloadMax) :
    execStart s = .next (beginSession s) := by
  rw [execStart, unlessBusy_of_idle _ hb, if_neg (BitVec.not_lt.2 hl)]

theorem exec_clear_of_idle {s : State} (hb : s.busy = false) : exec .clear s = .next (clearReturn s) :=
  unlessBusy_of_idle _ hb

/-- CLEAR leaves STATUS reading 0 (R172). -/
theorem statusWord_clearReturn (s : State) : statusWord (clearReturn s) = 0x00000000#32 := by
  simp only [statusWord, State.busy, State.done, clearReturn_state, clearReturn_outcome, clearReturn_reason,
    clearReturn_err]
  rfl

/-- Settles O21: NOP's answer, and any other word with its opcode is illegal. -/
theorem nopChangesNothing : Obligations.NopChangesNothing := by
  unfold Obligations.NopChangesNothing
  exact ⟨rfl, exec_nop, fun s w hop hw => hostWrite_of_illFormed (by decide) hop hw s⟩

/-- Settles O22: the two errors in their order, then the session's start; the three states that are not busy; ill-formed words. -/
theorem startBeginsSession : Obligations.StartBeginsSession := by
  unfold Obligations.StartBeginsSession
  exact ⟨rfl, fun s => ⟨unlessBusy_of_busy _, execStart_of_lenRange, execStart_of_fits⟩, busy_false_iff,
    fun s w hop hw => hostWrite_of_illFormed (by decide) hop hw s⟩

/-- Settles O23: the lockout, the return to IDLE and what STATUS then reads; ill-formed words. -/
theorem clearReturnsToIdle : Obligations.ClearReturnsToIdle := by
  unfold Obligations.ClearReturnsToIdle
  refine ⟨rfl, fun s => ⟨unlessBusy_of_busy _, exec_clear_of_idle⟩, fun s t hb ht => ?_,
    fun s w hop hw => hostWrite_of_illFormed (by decide) hop hw s⟩
  obtain rfl : clearReturn s = t := by simpa [exec_clear_of_idle hb] using ht
  rw [readReg_status, statusWord_clearReturn]

/-! ## The engine's turn and the tick, by the state's role (R180, R193, R212 to R214) -/

section Roles

variable {s t : State} {e b : Byte} {cls : WaitClass} {bs rest : List Byte}

theorem engineTurn_of_rest (hr : roleOf s.state = .rest) (ans : ChAnswer) : engineTurn ans s = .next s := by
  rw [engineTurn, hr]

theorem engineTurn_silent (s : State) : engineTurn .silent s = .next s := by
  unfold engineTurn
  cases roleOf s.state with
  | rest => rfl
  | send => rfl
  | wait e cls => rfl

theorem engineTurn_send_ok (hr : roleOf s.state = .send) (hb : bytesToSend s = .ok bs)
    (ht : afterWriteOk (recordTxn (.wrote bs true) s) = t) : engineTurn .ok s = .next t := by
  simp only [engineTurn, hr, sendTurn, hb, ht]

theorem engineTurn_send_err (hr : roleOf s.state = .send) (hb : bytesToSend s = .ok bs)
    (ht : afterWriteErr (recordTxn (.wrote bs false) s) = t) : engineTurn .err s = .next t := by
  simp only [engineTurn, hr, sendTurn, hb, ht]

/-- A read of an empty channel is answered `None` (R214). -/
theorem engineTurn_wait_none (hr : roleOf s.state = .wait e cls) (hc : s.chan = []) : engineTurn .ok s = .next s := by
  simp only [engineTurn, hr, waitTurn, hc]

theorem engineTurn_wait_byte (hr : roleOf s.state = .wait e cls) (hc : s.chan = b :: rest) :
    engineTurn .ok s = .next (onByte e b (recordTxn (.got b) { s with chan := rest })) := by
  simp only [engineTurn, hr, waitTurn, hc]

theorem engineTurn_wait_match (hr : roleOf s.state = .wait e cls) (hc : s.chan = e :: rest)
    (ht : onMatch (recordTxn (.got e) { s with chan := rest }) = t) : engineTurn .ok s = .next t := by
  rw [engineTurn_wait_byte hr hc, onByte, if_pos rfl, ht]

theorem engineTurn_wait_miss (hr : roleOf s.state = .wait e cls) (hc : s.chan = b :: rest) (hb : b ≠ e)
    (ht : onMiss (recordTxn (.got b) { s with chan := rest }) = t) : engineTurn .ok s = .next t := by
  rw [engineTurn_wait_byte hr hc, onByte, if_neg hb, ht]

/-- A tick counts only in a wait state (R212, R213). -/
theorem tickTurn_of_not_wait (hr : ∀ e cls, roleOf s.state ≠ .wait e cls) : tickTurn s = s := by
  rcases tickTurn_cases s with ⟨h, -⟩ | ⟨e, cls, hw, -⟩
  · exact h
  · exact absurd hw (hr e cls)

/-- The tick that makes ELAPSED reach the timeout is a miss (R212). -/
theorem tickTurn_timeout (hr : roleOf s.state = .wait e cls) (hlt : s.elapsed.toNat + 1 < 2 ^ 32)
    (hge : s.elapsed.toNat + 1 ≥ cls.ticks s.params) (ht : onMiss (advanceElapsed s) = t) : tickTurn s = t := by
  have hreached : cls.ticks s.params ≤ (advanceElapsed s).elapsed.toNat := by
    rwa [advanceElapsed_elapsed, BitVec.toNat_add_of_lt hlt]
  simp only [tickTurn, hr, if_pos hreached, ht]

end Roles

/-! ## The states by their role (R21) -/

theorem roleOf_ackWait : ∀ st ∈ [SessionState.awaitHdrAck, .awaitEotAck, .awaitFinalAck],
    roleOf st = .wait ackByte .ordinary := by decide

theorem roleOf_crcReqWait : ∀ st ∈ [SessionState.awaitHdrC, .awaitFinalC],
    roleOf st = .wait crcReq .ordinary := by decide

/-- The five waits that fail with TIMEOUT, by the byte they wait for. -/
theorem ackWait_or_crcReqWait :
    ∀ st ∈ [SessionState.awaitHdrAck, .awaitHdrC, .awaitEotAck, .awaitFinalC, .awaitFinalAck],
    st ∈ [SessionState.awaitHdrAck, .awaitEotAck, .awaitFinalAck] ∨ st ∈ [SessionState.awaitHdrC, .awaitFinalC] := by
  decide

theorem roleOf_wait {st : SessionState} (h : st ∈ [SessionState.awaitInitialReady, .awaitHdrAck, .awaitHdrC,
    .awaitDataAck, .awaitEotAck, .awaitFinalC, .awaitFinalAck]) : ∃ e cls, roleOf st = .wait e cls := by
  cases st with
  | idle | sendHeader | sendData | sendEot | sendFinalHeader | failCancel | failed | succeeded => simp at h
  | _ => exact ⟨_, _, rfl⟩

theorem roleOf_send : ∀ st ∈ [SessionState.sendHeader, .sendData, .sendEot, .sendFinalHeader, .failCancel],
    roleOf st = .send := by decide

/-- Settles O40, by the state's role. -/
theorem quietTurns : Obligations.QuietTurns := by
  unfold Obligations.QuietTurns
  refine fun s => ⟨fun hb => ?_, engineTurn_silent s, fun hst hc => ?_, fun hst => ?_⟩
  · have hr : roleOf s.state = .rest := (roleOf_rest_iff _).2 hb
    exact ⟨engineTurn_of_rest hr, tickTurn_of_not_wait (by simp [hr])⟩
  · obtain ⟨e, cls, hr⟩ := roleOf_wait hst
    exact engineTurn_wait_none hr hc
  · have hr : roleOf s.state = .send := roleOf_send _ hst
    exact tickTurn_of_not_wait (by simp [hr])

/-! ## The wait states' transitions, one equation per state -/

section Transitions

variable {s : State}

theorem onMatch_awaitInitialReady (h : s.state = .awaitInitialReady) : onMatch s = enterState .sendHeader s := by
  rw [onMatch, h]

theorem onMatch_awaitHdrAck (h : s.state = .awaitHdrAck) : onMatch s = enterWait .awaitHdrC s := by
  rw [onMatch, h]

theorem onMatch_awaitHdrC (h : s.state = .awaitHdrC) :
    onMatch s = enterState (if s.totBlk = 0#32 then .sendEot else .sendData) s := by
  rw [apply_ite (enterState · s), onMatch, h]

/-- The last block's ACK leads to EOT (R186). -/
theorem onMatch_awaitDataAck_last (h : s.state = .awaitDataAck) (hlast : s.blkIdx = s.totBlk) :
    onMatch s = enterState .sendEot (countBlock s) := by
  rw [onMatch, h, dataBlockAcked, if_pos hlast]

/-- Any other block's ACK leads to the next block (R186). -/
theorem onMatch_awaitDataAck_more (h : s.state = .awaitDataAck) (hmore : s.blkIdx ≠ s.totBlk) :
    onMatch s = nextBlock (countBlock s) := by
  rw [onMatch, h, dataBlockAcked, if_neg hmore]

theorem onMatch_awaitEotAck (h : s.state = .awaitEotAck) : onMatch s = enterWait .awaitFinalC s := by
  rw [onMatch, h]

theorem onMatch_awaitFinalC (h : s.state = .awaitFinalC) : onMatch s = enterState .sendFinalHeader s := by
  rw [onMatch, h]

theorem onMatch_awaitFinalAck (h : s.state = .awaitFinalAck) :
    onMatch s = { s with outcome := .succeeded, state := .succeeded } := by
  rw [onMatch, h]

theorem onMiss_awaitInitialReady (h : s.state = .awaitInitialReady) : onMiss s = sessionFail .noCrcRequest s := by
  rw [onMiss, h]

theorem onMiss_awaitDataAck (h : s.state = .awaitDataAck) :
    onMiss s = sessionFail .blockNotAcked { s with failBlk := s.blkIdx } := by
  rw [onMiss, h]

/-- The five waits that fail with TIMEOUT (R243). -/
theorem onMiss_timeout (h : s.state ∈ [SessionState.awaitHdrAck, .awaitEotAck, .awaitFinalAck] ∨
    s.state ∈ [SessionState.awaitHdrC, .awaitFinalC]) : onMiss s = sessionFail .timeout s := by
  simp only [List.mem_cons, List.not_mem_nil, or_false] at h
  rcases h with (h | h | h) | (h | h) <;> rw [onMiss, h]

/-- The acknowledged bytes fit ACKED, being at most LEN (R186). -/
theorem ackedBytes_toNat (s : State) : (ackedBytes s).toNat = min (s.blkIdx.toNat * 128) s.len.toNat := by
  have hlen : s.len.toNat < 2 ^ 32 := s.len.isLt
  rw [ackedBytes, blockSize, BitVec.toNat_ofNat, Nat.mod_eq_of_lt (by omega)]

end Transitions

/-- Settles O34: the match, the miss by another byte and the miss by the timeout. -/
theorem initialWait : Obligations.InitialWait := by
  unfold Obligations.InitialWait
  intro s h
  have hr : roleOf s.state = .wait crcReq .initial := by rw [h]; rfl
  exact ⟨fun rest hc => engineTurn_wait_match hr hc (onMatch_awaitInitialReady h),
    fun b rest hc hb => engineTurn_wait_miss hr hc hb (onMiss_awaitInitialReady h),
    fun hlt hge => tickTurn_timeout hr hlt hge (onMiss_awaitInitialReady h)⟩

/-- Settles O35: the five matches, then the miss by another byte and by the timeout for all five at once. -/
theorem ordinaryWaits : Obligations.OrdinaryWaits := by
  unfold Obligations.OrdinaryWaits
  refine fun s => ⟨fun h rest hc => ?_, fun h rest hc => ?_, fun h rest hc => ?_, fun h rest hc => ?_,
    fun h rest hc => ?_, fun b rest hc hb => ?_, fun h hlt hge => ?_⟩
  · exact engineTurn_wait_match (roleOf_ackWait _ (by simp [h])) hc (onMatch_awaitHdrAck h)
  · exact engineTurn_wait_match (roleOf_crcReqWait _ (by simp [h])) hc (onMatch_awaitHdrC h)
  · exact engineTurn_wait_match (roleOf_ackWait _ (by simp [h])) hc (onMatch_awaitEotAck h)
  · exact engineTurn_wait_match (roleOf_crcReqWait _ (by simp [h])) hc (onMatch_awaitFinalC h)
  · exact engineTurn_wait_match (roleOf_ackWait _ (by simp [h])) hc (onMatch_awaitFinalAck h)
  · rcases hb with ⟨hst, hb⟩ | ⟨hst, hb⟩
    · exact engineTurn_wait_miss (roleOf_ackWait _ hst) hc hb (onMiss_timeout (.inl hst))
    · exact engineTurn_wait_miss (roleOf_crcReqWait _ hst) hc hb (onMiss_timeout (.inr hst))
  · rcases ackWait_or_crcReqWait _ h with hst | hst
    · exact tickTurn_timeout (roleOf_ackWait _ hst) hlt hge (onMiss_timeout (.inl hst))
    · exact tickTurn_timeout (roleOf_crcReqWait _ hst) hlt hge (onMiss_timeout (.inr hst))

/-- Settles O36: the ACK by whether it is the last block's, then the miss by another byte and by the timeout. -/
theorem dataAckWait : Obligations.DataAckWait := by
  unfold Obligations.DataAckWait
  intro s h
  have hr : roleOf s.state = .wait ackByte .ordinary := by rw [h]; rfl
  refine ⟨fun rest hc => ?_, fun b rest hc hb => engineTurn_wait_miss hr hc hb (onMiss_awaitDataAck h),
    fun hlt hge => tickTurn_timeout hr hlt hge (onMiss_awaitDataAck h)⟩
  by_cases hlast : s.blkIdx = s.totBlk
  · exact ⟨_, engineTurn_wait_match hr hc (onMatch_awaitDataAck_last h hlast), rfl,
      ackedBytes_toNat s, fun _ => ⟨rfl, rfl, rfl⟩, absurd hlast⟩
  · exact ⟨_, engineTurn_wait_match hr hc (onMatch_awaitDataAck_more h hlast), rfl,
      ackedBytes_toNat s, fun hl => absurd hl hlast, fun _ => ⟨rfl, rfl, BitVec.toNat_add ..⟩⟩

/-! ## The send states (R182, R185, R187, R190, R192) -/

section Sends

variable {s : State} {bs : List Byte}

theorem bytesToSend_sendHeader {p : List Byte} (h : s.state = .sendHeader) (hp : headerPayload s = .ok p) :
    bytesToSend s = .ok (frame 0x00#8 p) := by
  simp only [bytesToSend, h, headerFrame, hp]

theorem bytesToSend_sendData {p : List Byte} (h : s.state = .sendData) (hp : dataPayload s s.blkIdx.toNat = .ok p) :
    bytesToSend s = .ok (frame s.seq p) := by
  simp only [bytesToSend, h, dataFrame_of_ok hp]

theorem bytesToSend_sendEot (h : s.state = .sendEot) : bytesToSend s = .ok [eotByte] := by
  rw [bytesToSend, h]

theorem bytesToSend_sendFinalHeader (h : s.state = .sendFinalHeader) : bytesToSend s = .ok endFrame := by
  rw [bytesToSend, h]

theorem bytesToSend_failCancel (h : s.state = .failCancel) : bytesToSend s = .ok cancelPair := by
  rw [bytesToSend, h]

theorem afterWriteOk_sendHeader (h : s.state = .sendHeader) : afterWriteOk s = enterWait .awaitHdrAck s := by
  rw [afterWriteOk, h]

theorem afterWriteOk_sendData (h : s.state = .sendData) : afterWriteOk s = enterWait .awaitDataAck s := by
  rw [afterWriteOk, h]

theorem afterWriteOk_sendEot (h : s.state = .sendEot) : afterWriteOk s = enterWait .awaitEotAck s := by
  rw [afterWriteOk, h]

theorem afterWriteOk_sendFinalHeader (h : s.state = .sendFinalHeader) :
    afterWriteOk s = enterWait .awaitFinalAck s := by
  rw [afterWriteOk, h]

theorem afterWriteOk_failCancel (h : s.state = .failCancel) : afterWriteOk s = enterState .failed s := by
  rw [afterWriteOk, h]

theorem afterWriteErr_failCancel (h : s.state = .failCancel) : afterWriteErr s = enterState .failed s := if_pos h

theorem afterWriteErr_of_ne (h : s.state ≠ .failCancel) : afterWriteErr s = sessionFail .channelClosed s := if_neg h

/-- A send state of the session: `OK` leads to the wait `w` that `afterWriteOk` enters, `Err` fails with CHANNEL_CLOSED (R180, R245). -/
theorem sendState_answers {w : SessionState} (hr : roleOf s.state = .send) (hf : s.state ≠ .failCancel)
    (hb : bytesToSend s = .ok bs)
    (hw : afterWriteOk (recordTxn (.wrote bs true) s) = enterWait w (recordTxn (.wrote bs true) s)) :
    engineTurn .ok s = .next { s with wire := s.wire ++ [.wrote bs true], elapsed := 0#32, state := w } ∧
    engineTurn .err s = .next { s with wire := s.wire ++ [.wrote bs false],
                                       reason := .channelClosed, outcome := .failed, state := .failCancel } :=
  ⟨engineTurn_send_ok hr hb hw, engineTurn_send_err hr hb (afterWriteErr_of_ne hf)⟩

end Sends

/-- Settles O37: each state's bytes and the wait it enters. -/
theorem sendStates : Obligations.SendStates := by
  unfold Obligations.SendStates
  refine fun s => ⟨fun p h hp => ?_, fun p h hp => ?_, fun h => ?_, fun h => ?_⟩
  · exact sendState_answers (by rw [h]; rfl) (by simp [h]) (bytesToSend_sendHeader h hp) (afterWriteOk_sendHeader h)
  · exact sendState_answers (by rw [h]; rfl) (by simp [h]) (bytesToSend_sendData h hp) (afterWriteOk_sendData h)
  · exact sendState_answers (by rw [h]; rfl) (by simp [h]) (bytesToSend_sendEot h) (afterWriteOk_sendEot h)
  · exact sendState_answers (by rw [h]; rfl) (by simp [h]) (bytesToSend_sendFinalHeader h)
      (afterWriteOk_sendFinalHeader h)

/-- Settles O38: both answers of the cancel write end in FAILED. -/
theorem cancelPairErrorIsSwallowed : Obligations.CancelPairErrorIsSwallowed := by
  unfold Obligations.CancelPairErrorIsSwallowed
  intro s h
  have hr : roleOf s.state = .send := by rw [h]; rfl
  exact ⟨engineTurn_send_ok hr (bytesToSend_failCancel h) (afterWriteOk_failCancel h),
    engineTurn_send_err hr (bytesToSend_failCancel h) (afterWriteErr_failCancel h)⟩

end Sys2Proof.Machine
end

section
/-! PROOF. The exceptions (60_exceptions.md R230 to R236, R245): the command errors in their priority, the busy lockout, and the channel's `Err`. -/

namespace Sys2Proof.Machine

/-! ## Command errors in their priority (R230, R233 to R236) -/

/-- The commands that the busy lockout covers (R233). -/
theorem exec_lockedOut {i : Instr} {s : State} (hb : s.busy = true)
    (hi : i ∈ [Instr.start, .clear, .frameHdr, .frameData, .frameEnd, .frameCheck]) :
    exec i s = .next (raiseCmdError .busy s) := by
  cases i with
  | nop | crcInit | crcByte b => simp at hi
  | _ => exact unlessBusy_of_busy _ hb

/-- Which error a command raises, and when (R233 to R236). -/
theorem errorOf_cases {s : State} {i : Instr} (h : errorOf s i ≠ .none) :
    (errorOf s i = .busy ∧ s.busy = true ∧ i ∈ [Instr.start, .clear, .frameHdr, .frameData, .frameEnd, .frameCheck]) ∨
    (errorOf s i = .lenRange ∧ s.busy = false ∧ s.params.payloadMax < s.len ∧ (i = .start ∨ i = .frameData)) ∨
    (errorOf s i = .argRange ∧ s.busy = false ∧ s.len ≤ s.params.payloadMax ∧ s.fbIdx = 0#32 ∧ i = .frameData) := by
  cases hb : s.busy with
  | true =>
    cases i with
    | nop | crcInit | crcByte b => exact absurd rfl h
    | _ => exact .inl (by simp [errorOf, hb])
  | false =>
    by_cases hl : s.params.payloadMax < s.len
    · cases i with
      | start | frameData => exact .inr (.inl (by simp [errorOf, hb, hl]))
      | _ => simp [errorOf, hb] at h
    · cases i with
      | frameData =>
        by_cases h0 : s.fbIdx = 0#32
        · exact .inr (.inr ⟨by simp [errorOf, hb, hl, h0], rfl, BitVec.not_lt.1 hl, h0, rfl⟩)
        · simp [errorOf, hb, hl, h0] at h
      | _ => simp [errorOf, hb, hl] at h

/-- A command to which an error applies raises it and does nothing else (R230, R236). -/
theorem exec_of_errorOf {s : State} {i : Instr} (h : errorOf s i ≠ .none) :
    exec i s = .next (raiseCmdError (errorOf s i) s) := by
  rcases errorOf_cases h with ⟨he, hb, hi⟩ | ⟨he, hb, hl, rfl | rfl⟩ | ⟨he, hb, hl, h0, rfl⟩ <;> rw [he]
  · exact exec_lockedOut hb hi
  · exact execStart_of_lenRange hb hl
  · exact execFrameData_of_lenRange hb hl
  · exact execFrameData_of_argRange hb hl h0

/-- Of the commands that raise no error CLEAR alone writes ERR (R25, R172). -/
theorem exec_err_of_errorOf_none {s t : State} {i : Instr} (he : errorOf s i = .none) (h : exec i s = .next t)
    (hi : i ≠ .clear) : t.err = s.err := by
  rcases exec_next h with ⟨hne, -⟩ | ⟨-, ⟨-, rfl⟩ | ⟨-, x, rfl⟩ | ⟨-, -, f, -, rfl⟩ | ⟨-, -, f, rfl⟩ |
    ⟨-, -, -, rfl⟩ | ⟨hc, -, -⟩⟩
  case inl => exact absurd he hne
  case inr.inr.inr.inr.inr.inr => exact absurd hc hi
  all_goals rfl

/-- Settles O24: the command's error in its priority, what the others leave of ERR, and the illegal words. -/
theorem commandErrorsInPriority : Obligations.CommandErrorsInPriority := by
  unfold Obligations.CommandErrorsInPriority
  exact ⟨fun s i => exec_of_errorOf, fun s t i => exec_err_of_errorOf_none, fun s w h => hostWrite_illegalWord h s⟩

/-! ## The busy lockout (R66, R233) -/

/-- The host writes that the busy lockout covers (R66). -/
theorem hostWrite_lockedOut {s : State} {a : Word} (hb : s.busy = true)
    (ha : a = 0x003#32 ∨ a = 0x004#32 ∨ a = 0x005#32 ∨ isBuffer s.params a.toNat = true) (w : Word) :
    hostWrite a w s = .next (raiseCmdError .busy s) := by
  rcases ha with rfl | rfl | rfl | ha
  · exact (hostWrite_register (r := .len) rfl w s).trans (unlessBusy_of_busy _ hb)
  · exact (hostWrite_register (r := .nameLen) rfl w s).trans (unlessBusy_of_busy _ hb)
  · exact (hostWrite_register (r := .fbIdx) rfl w s).trans (unlessBusy_of_busy _ hb)
  · rw [hostWrite_buffer w ha, unlessBusy_of_busy _ hb]

/-- A register's address is one of the four writable or of the eleven read-only ones (R20). -/
theorem writable_or_readOnly :
    ∀ n ≤ 0x00E, BitVec.ofNat 32 n ∈ [0x000#32, 0x003#32, 0x004#32, 0x005#32] ∨ BitVec.ofNat 32 n ∈
      [0x001#32, 0x002#32, 0x006#32, 0x007#32, 0x008#32, 0x009#32, 0x00A#32, 0x00B#32, 0x00C#32, 0x00D#32, 0x00E#32] := by
  decide

/-- A host write that is to no writable register and to no buffer byte is ignored, busy or not (R64, R65). -/
theorem hostWrite_ignored {s : State} {a : Word} (ha : a ∉ [0x000#32, 0x003#32, 0x004#32, 0x005#32])
    (hbuf : isBuffer s.params a.toNat = false) (w : Word) : hostWrite a w s = .next s := by
  rcases Nat.lt_or_ge 0x00E a.toNat with hr | hr
  · exact hostWrite_unmapped w hr hbuf
  · have hreg := writable_or_readOnly a.toNat hr
    rw [BitVec.ofNat_toNat, BitVec.setWidth_eq] at hreg
    exact (ignoredAddresses s a w).1 (hreg.resolve_left ha)

theorem hostRead_err (a : Word) (s : State) : (hostRead a s).err = s.err := by
  obtain ⟨r, d, h⟩ := hostRead_record a s
  rw [h]

/-- Settles O25: what the lockout covers, the writes it ignores, and the reads and commands it lets through. -/
theorem busyLockout : Obligations.BusyLockout := by
  unfold Obligations.BusyLockout
  exact fun s hb => ⟨fun i => exec_lockedOut hb, fun a w ha => hostWrite_lockedOut hb ha w,
    fun a w hcmd hlen hname hfb hbuf => hostWrite_ignored (by simp [hcmd, hlen, hname, hfb]) hbuf w,
    fun a => hostRead_err a s, exec_nop s, ⟨_, exec_crcInit s, rfl⟩, fun b => ⟨_, exec_crcByte s b, rfl⟩⟩

/-! ## The channel's `Err` (R245) -/

theorem engineTurn_wait_err {s : State} {e : Byte} {cls : WaitClass} (hr : roleOf s.state = .wait e cls) :
    engineTurn .err s = .next (sessionFail .channelClosed (recordTxn .readErr s)) := by
  simp only [engineTurn, hr, waitTurn]

/-- An `Err` in a state 1 to 11 fails the session with CHANNEL_CLOSED, whichever transaction it answers (R245). -/
theorem engineTurn_err_fails {s : State} (hb : s.busy = true) (hf : s.state ≠ .failCancel)
    (hs : ∃ bs, bytesToSend s = .ok bs) :
    ∃ x, engineTurn .err s = .next (sessionFail .channelClosed (recordTxn x s)) ∧
      (x = .readErr ∨ ∃ bs, x = .wrote bs false) := by
  cases hr : roleOf s.state with
  | rest =>
    have hidle : s.busy = false := (roleOf_rest_iff _).1 hr
    simp [hidle] at hb
  | send =>
    obtain ⟨bs, hbs⟩ := hs
    exact ⟨.wrote bs false, engineTurn_send_err hr hbs (afterWriteErr_of_ne hf), .inr ⟨bs, rfl⟩⟩
  | wait e cls => exact ⟨.readErr, engineTurn_wait_err hr, .inl rfl⟩

/-- Settles O39: the failure by the state's role, and FAIL_CANCEL by R192. -/
theorem channelErrorFailsSession : Obligations.ChannelErrorFailsSession := by
  unfold Obligations.ChannelErrorFailsSession
  refine ⟨fun s hb hf hs => ?_, fun s h => ⟨_, (cancelPairErrorIsSwallowed s h).2, rfl⟩⟩
  obtain ⟨x, he, hx⟩ := engineTurn_err_fails hb hf hs
  exact ⟨_, he, rfl, x, rfl, hx⟩

end Sys2Proof.Machine
end

section
/-! PROOF. Resets (70_reset_and_hazards.md R260, R263): what the two reset steps make of any state, whole. -/

namespace Sys2Proof.Machine

/-! ## What a reset leaves -/

/-- A reset while powered sets the registers and nothing else (R260): buffers, channel, records and parameters stay. -/
theorem warmReset_eq (s : State) : warmReset s = { s with
    state := .idle, outcome := .none, reason := .none, err := .none, acc := 0x0000#16, len := 0#32, nameLen := 0#8,
    fbIdx := 0#32, chkRes := 0#32, blkIdx := 0#32, seq := 0#8, acked := 0#32, totBlk := 0#32, failBlk := 0#32,
    elapsed := 0#32, progCnt := 0#32 } := rfl

/-! ## The two reset steps -/

theorem step_reset {s : State} {rest : List Event} (hs : s.script = .reset :: rest) :
    step s = .next (warmReset (s.withScript rest)) := step_cons hs

theorem step_powerOn {s : State} {rest : List Event} (hs : s.script = .powerOn :: rest) :
    step s = .next (powerOnReset (s.withScript rest)) := step_cons hs

/-- Settles O43, one kind of reset at a time; they differ only in the buffers. -/
theorem resetSetsEveryRegister : Obligations.ResetSetsEveryRegister := by
  unfold Obligations.ResetSetsEveryRegister
  rintro s e rest (rfl | rfl) hs
  · rw [step_reset hs, warmReset_eq]
    rfl
  · rw [step_powerOn hs, powerOnReset, warmReset_eq]
    rfl

end Sys2Proof.Machine
end

section
/-! PROOF. Commands and host accesses (30_encoding.md R91, R92, 20_memory.md R60 to R67): the decoder inverts the encoder, a step runs the decoded command, and what a host read returns and a register write stores. -/

namespace Sys2Proof.Machine

/-! ## Decoding (R91, R92) -/

/-- Settles O1, since the decoder accepts exactly the encodings. -/
theorem decodeInvertsEncode : Obligations.DecodeInvertsEncode := by
  unfold Obligations.DecodeInvertsEncode
  exact fun w i => decode_eq_ok_iff.trans eq_comm

/-- Settles O3, word by word. -/
theorem sampleWordsDecode : Obligations.SampleWordsDecode := by
  unfold Obligations.SampleWordsDecode
  decide

/-- A write of a command's word to CMD executes the command (R44, R92). -/
theorem hostWrite_of_decode {w : Word} {i : Instr} (h : decode w = .ok i) (s : State) :
    hostWrite 0#32 w s = exec i s := by
  rw [hostWrite_cmd, writeCmd, h]

/-- Settles O4: the step is the write to CMD, and the write executes the command. -/
theorem stepRunsDecodedCommand : Obligations.StepRunsDecodedCommand := by
  unfold Obligations.StepRunsDecodedCommand
  intro s w i rest hs hw
  rw [step_cons hs]
  exact hostWrite_of_decode hw _

/-! ## Host reads (R60 to R67) -/

theorem half_as_word (h : Half) : h.setWidth 32 = 0x0000#16 ++ h := by
  rw [BitVec.setWidth_eq_append (by omega)]
  rfl

theorem hostRead_of_readWord {a v : Word} {s : State} (h : readWord a.toNat s = some v) :
    hostRead a s = { s with reads := s.reads ++ [v] } := by
  rw [hostRead, h]
  rfl

/-- Only a buffer byte that holds no value needs a free value (R43). -/
theorem readWord_eq_none_iff {a : Nat} {s : State} :
    readWord a s = none ↔ isBuffer s.params a = true ∧ s.mem.read a = none := by
  cases hb : isBuffer s.params a with
  | true => simp [readWord, regAt_none_of_isBuffer hb, hb]
  | false =>
    unfold readWord
    cases regAt a <;> simp [hb]

/-- Settles O27: one register at a time; the three narrow ones are zero-extended. -/
theorem hostReadReturnsRegister : Obligations.HostReadReturnsRegister := by
  unfold Obligations.HostReadReturnsRegister
  intro s
  rw [← half_as_word, ← byte_as_word, ← byte_as_word]
  exact ⟨rfl, rfl, rfl, rfl, rfl, rfl, rfl, rfl, rfl, rfl, rfl, rfl, rfl, rfl, rfl, fun a v => hostRead_of_readWord⟩

/-- Settles O29, by whether the read needs a free value. -/
theorem hostReadHasNoSideEffect : Obligations.HostReadHasNoSideEffect := by
  unfold Obligations.HostReadHasNoSideEffect
  intro s t a rest hs h
  obtain rfl : hostRead a (s.withScript rest) = t := by simpa [step_cons hs, runEvent] using h
  rcases hostRead_eq a (s.withScript rest) with ⟨v, -, hr⟩ | ⟨hn, hr⟩ <;> rw [hr]
  · exact ⟨v, rfl, .inl rfl⟩
  · exact ⟨_, rfl, .inr (readWord_eq_none_iff.1 hn)⟩

/-- Settles O30: the byte is the free value of the read. -/
theorem unwrittenReadReturnsSomeByte : Obligations.UnwrittenReadReturnsSomeByte := by
  unfold Obligations.UnwrittenReadReturnsSomeByte
  intro s a hb hm
  refine ⟨Config.freeByte s.draws, ?_⟩
  rw [hostRead, readWord_eq_none_iff.2 ⟨hb, hm⟩, ← byte_as_word]
  rfl

/-! ## Register writes (R62) -/

/-- Settles O32: each of the three registers' writes, past the lockout. -/
theorem registerWriteStores : Obligations.RegisterWriteStores := by
  unfold Obligations.RegisterWriteStores
  intro s w hb
  rw [← low_byte]
  exact ⟨(hostWrite_register (r := .len) rfl w s).trans (unlessBusy_of_idle _ hb),
    (hostWrite_register (r := .nameLen) rfl w s).trans (unlessBusy_of_idle _ hb),
    (hostWrite_register (r := .fbIdx) rfl w s).trans (unlessBusy_of_idle _ hb)⟩

end Sys2Proof.Machine
end

section
/-! PROOF. The moves of a session (42_sender.md R180 to R193): what the engine's turn or a tick can do to the session, said once, with what a failure leaves. -/

namespace Sys2Proof.Machine

open Sys2Proof.Config

/-! ## What a move leaves alone -/

/-- `t` has the counters and the PROGRESS events of `s`: what only an acknowledged data block changes during a session (R186). -/
structure SameCounters (s t : State) : Prop where
  blkIdx : t.blkIdx = s.blkIdx
  seq : t.seq = s.seq
  acked : t.acked = s.acked
  progCnt : t.progCnt = s.progCnt
  progress : t.progress = s.progress

theorem SameCounters.trans {s t u : State} (h : SameCounters s t) (k : SameCounters t u) : SameCounters s u :=
  ⟨k.blkIdx.trans h.blkIdx, k.seq.trans h.seq, k.acked.trans h.acked, k.progCnt.trans h.progCnt,
   k.progress.trans h.progress⟩

theorem onMiss_sameCounters (s : State) : SameCounters s (onMiss s) := by
  unfold onMiss
  split <;> exact ⟨rfl, rfl, rfl, rfl, rfl⟩

/-- The state in which the engine has read the byte `b`, the channel's oldest, and `rest` is left there (R180). -/
def afterRead (b : Byte) (rest : List Byte) (s : State) : State := recordTxn (.got b) { s with chan := rest }

theorem afterRead_sameHostSide (b : Byte) (rest : List Byte) (s : State) : SameHostSide s (afterRead b rest s) :=
  ⟨rfl, rfl, rfl, rfl, rfl, rfl, rfl, rfl, rfl, rfl, rfl, rfl⟩

theorem advanceElapsed_sameHostSide (s : State) : SameHostSide s (advanceElapsed s) :=
  ⟨rfl, rfl, rfl, rfl, rfl, rfl, rfl, rfl, rfl, rfl, rfl, rfl⟩

/-! ## The moves -/

/-- `t` is `s` after a failure of the session (R240 to R245): every counter keeps its value, and FAILBLK is written by BLOCK_NOT_ACKED alone. -/
structure Fails (s t : State) : Prop where
  busy : s.busy = true
  not_cancelling : s.state ≠ .failCancel
  host : SameHostSide s t
  counters : SameCounters s t
  state : t.state = .failCancel
  outcome : t.outcome = .failed
  reason : t.reason ≠ .none
  no_request : t.reason = .noCrcRequest → s.state = .awaitInitialReady
  fail_block : if t.reason = .blockNotAcked then s.state = .awaitDataAck ∧ t.failBlk = s.blkIdx
    else t.failBlk = s.failBlk
  elapsed : t.elapsed = s.elapsed ∨ (∃ e cls, roleOf s.state = .wait e cls) ∧ t.elapsed = s.elapsed + 1#32

/-- What the engine's turn or a tick can do: one constructor for each transition of R181 to R193. -/
inductive Move (s : State) : State → Prop where
  | quiet : Move s s
  | counted {e : Byte} {cls : WaitClass} :
    roleOf s.state = .wait e cls → (s.elapsed + 1#32).toNat < cls.ticks s.params → Move s (advanceElapsed s)
  | sentHeader {bs : List Byte} : s.state = .sendHeader → headerFrame s = .ok bs →
    Move s (enterWait .awaitHdrAck (recordTxn (.wrote bs true) s))
  | sentData {bs : List Byte} : s.state = .sendData → dataFrame s s.seq s.blkIdx.toNat = .ok bs →
    Move s (enterWait .awaitDataAck (recordTxn (.wrote bs true) s))
  | sentEot : s.state = .sendEot → Move s (enterWait .awaitEotAck (recordTxn (.wrote [eotByte] true) s))
  | sentFinalHeader : s.state = .sendFinalHeader →
    Move s (enterWait .awaitFinalAck (recordTxn (.wrote endFrame true) s))
  | cancelled (ok : Bool) : s.state = .failCancel →
    Move s (enterState .failed (recordTxn (.wrote cancelPair ok) s))
  | gotInitialC (rest : List Byte) : s.state = .awaitInitialReady →
    Move s (enterState .sendHeader (afterRead crcReq rest s))
  | gotHdrAck (rest : List Byte) : s.state = .awaitHdrAck →
    Move s (enterWait .awaitHdrC (afterRead ackByte rest s))
  | gotHdrC (rest : List Byte) : s.state = .awaitHdrC →
    Move s (enterState (if s.totBlk = 0#32 then .sendEot else .sendData) (afterRead crcReq rest s))
  | gotLastAck (rest : List Byte) : s.state = .awaitDataAck → s.blkIdx = s.totBlk →
    Move s (enterState .sendEot (countBlock (afterRead ackByte rest s)))
  | gotDataAck (rest : List Byte) : s.state = .awaitDataAck → s.blkIdx ≠ s.totBlk →
    Move s (nextBlock (countBlock (afterRead ackByte rest s)))
  | gotEotAck (rest : List Byte) : s.state = .awaitEotAck →
    Move s (enterWait .awaitFinalC (afterRead ackByte rest s))
  | gotFinalC (rest : List Byte) : s.state = .awaitFinalC →
    Move s (enterState .sendFinalHeader (afterRead crcReq rest s))
  | gotFinalAck (rest : List Byte) : s.state = .awaitFinalAck →
    Move s { afterRead ackByte rest s with outcome := .succeeded, state := .succeeded }
  | failed {t : State} : Fails s t → Move s t

/-! ## The states by their role, the other way round (R21) -/

theorem state_of_send {st : SessionState} (h : roleOf st = .send) :
    st = .sendHeader ∨ st = .sendData ∨ st = .sendEot ∨ st = .sendFinalHeader ∨ st = .failCancel := by
  cases st <;> simp [roleOf] at h ⊢

/-- The waits by the failure that a miss raises (R242 to R244). -/
theorem state_of_wait {st : SessionState} {e : Byte} {cls : WaitClass} (h : roleOf st = .wait e cls) :
    st = .awaitInitialReady ∨ st = .awaitDataAck ∨
      st ∈ [SessionState.awaitHdrAck, .awaitEotAck, .awaitFinalAck] ∨ st ∈ [SessionState.awaitHdrC, .awaitFinalC] := by
  cases st <;> simp [roleOf] at h ⊢

theorem busy_of_wait {s : State} {e : Byte} {cls : WaitClass} (h : roleOf s.state = .wait e cls) : s.busy = true :=
  busy_of_role (by simp [h])

theorem busy_of_send {s : State} (h : roleOf s.state = .send) : s.busy = true := busy_of_role (by simp [h])

theorem ne_failCancel_of_wait {st : SessionState} {e : Byte} {cls : WaitClass} (h : roleOf st = .wait e cls) :
    st ≠ .failCancel := by
  rintro rfl
  simp [roleOf] at h

/-! ## Failures -/

/-- An `Err` is a failure with CHANNEL_CLOSED, whatever transaction it answers (R245). -/
theorem fails_channelClosed {s : State} (hb : s.busy = true) (hf : s.state ≠ .failCancel) (x : ChTxn) :
    Fails s (sessionFail .channelClosed (recordTxn x s)) where
  busy := hb
  not_cancelling := hf
  host := (recordTxn_sameHostSide x s).trans (sessionFail_sameHostSide _ _)
  counters := ⟨rfl, rfl, rfl, rfl, rfl⟩
  state := rfl
  outcome := rfl
  reason := by simp
  no_request := by simp
  fail_block := by simp
  elapsed := .inl rfl

/-- A miss is a failure with the wait's own reason (R242 to R244); `u` is `s` after the read or the tick that is the miss. -/
theorem fails_onMiss {s u : State} {e : Byte} {cls : WaitClass} (hr : roleOf s.state = .wait e cls)
    (hst : u.state = s.state) (hh : SameHostSide s u) (hc : SameCounters s u) (hfb : u.failBlk = s.failBlk)
    (he : u.elapsed = s.elapsed ∨ u.elapsed = s.elapsed + 1#32) : Fails s (onMiss u) := by
  have hhost := hh.trans (onMiss_sameHostSide u)
  have hcnt := hc.trans (onMiss_sameCounters u)
  have hbusy := busy_of_wait hr
  have hnot := ne_failCancel_of_wait hr
  have hel : u.elapsed = s.elapsed ∨ (∃ e cls, roleOf s.state = .wait e cls) ∧ u.elapsed = s.elapsed + 1#32 :=
    he.imp_right (And.intro ⟨e, cls, hr⟩)
  rcases state_of_wait hr with hi | hd | ht
  · rw [onMiss_awaitInitialReady (hst.trans hi)] at hhost hcnt ⊢
    exact ⟨hbusy, hnot, hhost, hcnt, rfl, rfl, by simp, fun _ => hi, by simpa using hfb, hel⟩
  · rw [onMiss_awaitDataAck (hst.trans hd)] at hhost hcnt ⊢
    exact ⟨hbusy, hnot, hhost, hcnt, rfl, rfl, by simp, by simp, by simpa using ⟨hd, hc.blkIdx⟩, hel⟩
  · rw [← hst] at ht
    rw [onMiss_timeout ht] at hhost hcnt ⊢
    exact ⟨hbusy, hnot, hhost, hcnt, rfl, rfl, by simp, by simp, by simpa using hfb, hel⟩

/-! ## The engine's turn and the tick are moves -/

theorem move_afterWriteOk {s : State} {bs : List Byte} (hr : roleOf s.state = .send) (hb : bytesToSend s = .ok bs) :
    Move s (afterWriteOk (recordTxn (.wrote bs true) s)) := by
  rcases state_of_send hr with h | h | h | h | h
  · rw [afterWriteOk_sendHeader (s := recordTxn _ s) h]
    exact .sentHeader h (by simpa [bytesToSend, h] using hb)
  · rw [afterWriteOk_sendData (s := recordTxn _ s) h]
    exact .sentData h (by simpa [bytesToSend, h] using hb)
  · obtain rfl : [eotByte] = bs := by simpa [bytesToSend_sendEot h] using hb
    rw [afterWriteOk_sendEot (s := recordTxn _ s) h]
    exact .sentEot h
  · obtain rfl : endFrame = bs := by simpa [bytesToSend_sendFinalHeader h] using hb
    rw [afterWriteOk_sendFinalHeader (s := recordTxn _ s) h]
    exact .sentFinalHeader h
  · obtain rfl : cancelPair = bs := by simpa [bytesToSend_failCancel h] using hb
    rw [afterWriteOk_failCancel (s := recordTxn _ s) h]
    exact .cancelled true h

theorem move_afterWriteErr {s : State} {bs : List Byte} (hr : roleOf s.state = .send) (hb : bytesToSend s = .ok bs) :
    Move s (afterWriteErr (recordTxn (.wrote bs false) s)) := by
  by_cases h : s.state = .failCancel
  · obtain rfl : cancelPair = bs := by simpa [bytesToSend_failCancel h] using hb
    rw [afterWriteErr_failCancel (s := recordTxn _ s) h]
    exact .cancelled false h
  · rw [afterWriteErr_of_ne (s := recordTxn _ s) h]
    exact .failed (fails_channelClosed (busy_of_send hr) h _)

theorem move_onMatch {s : State} {e : Byte} {cls : WaitClass} (hr : roleOf s.state = .wait e cls) (rest : List Byte) :
    Move s (onMatch (afterRead e rest s)) := by
  cases h : s.state <;> rw [h] at hr <;> cases hr
  case awaitInitialReady =>
    rw [onMatch_awaitInitialReady (s := afterRead _ rest s) h]
    exact .gotInitialC rest h
  case awaitHdrAck =>
    rw [onMatch_awaitHdrAck (s := afterRead _ rest s) h]
    exact .gotHdrAck rest h
  case awaitHdrC =>
    rw [onMatch_awaitHdrC (s := afterRead _ rest s) h]
    exact .gotHdrC rest h
  case awaitDataAck =>
    by_cases hl : s.blkIdx = s.totBlk
    · rw [onMatch_awaitDataAck_last (s := afterRead _ rest s) h hl]
      exact .gotLastAck rest h hl
    · rw [onMatch_awaitDataAck_more (s := afterRead _ rest s) h hl]
      exact .gotDataAck rest h hl
  case awaitEotAck =>
    rw [onMatch_awaitEotAck (s := afterRead _ rest s) h]
    exact .gotEotAck rest h
  case awaitFinalC =>
    rw [onMatch_awaitFinalC (s := afterRead _ rest s) h]
    exact .gotFinalC rest h
  case awaitFinalAck =>
    rw [onMatch_awaitFinalAck (s := afterRead _ rest s) h]
    exact .gotFinalAck rest h

theorem engineTurn_move {ans : ChAnswer} {s t : State} (h : engineTurn ans s = .next t) : Move s t := by
  rcases engineTurn_next h with rfl | ⟨hr, bs, hb, ⟨-, rfl⟩ | ⟨-, rfl⟩⟩ | ⟨e, cls, hr, ⟨-, rfl⟩ | ⟨-, b, rest, -, rfl⟩⟩
  · exact .quiet
  · exact move_afterWriteOk hr hb
  · exact move_afterWriteErr hr hb
  · exact .failed (fails_channelClosed (busy_of_wait hr) (ne_failCancel_of_wait hr) _)
  · unfold onByte
    split
    · subst b
      exact move_onMatch hr rest
    · exact .failed (fails_onMiss hr rfl (afterRead_sameHostSide b rest s) ⟨rfl, rfl, rfl, rfl, rfl⟩ rfl (.inl rfl))

theorem tickTurn_move (s : State) : Move s (tickTurn s) := by
  rcases tickTurn_cases s with ⟨h, -⟩ | ⟨e, cls, hr, ⟨-, h⟩ | ⟨hlt, h⟩⟩ <;> rw [h]
  · exact .quiet
  · exact .failed (fails_onMiss hr rfl (advanceElapsed_sameHostSide s) ⟨rfl, rfl, rfl, rfl, rfl⟩ rfl (.inr rfl))
  · exact .counted hr hlt

/-- No move writes the host's side (R51, R126, R41). -/
theorem Move.sameHostSide {s t : State} (h : Move s t) : SameHostSide s t := by
  cases h with
  | failed hf => exact hf.host
  | _ => exact ⟨rfl, rfl, rfl, rfl, rfl, rfl, rfl, rfl, rfl, rfl, rfl, rfl⟩

/-! ## Every step, by what it can touch -/

/-- A step is a reset, a host write, a move of the session, or it touches only the channel's unread bytes and the records of host reads (R8, R80). -/
theorem step_agent_cases {s t : State} {e : Event} {rest : List Event} (hs : s.script = e :: rest)
    (h : step s = .next t) :
    (e = .reset ∧ t = warmReset (s.withScript rest)) ∨
    (e = .powerOn ∧ t = powerOnReset (s.withScript rest)) ∨
    (∃ a w, e = .hostWrite a w ∧ hostWrite a w (s.withScript rest) = .next t) ∨
    ((e = .tick ∨ ∃ ans, e = .engine ans) ∧ Move (s.withScript rest) t) ∨
    (e ≠ .tick ∧ (∀ a w, e ≠ .hostWrite a w) ∧ ∃ chan reads draws, t = { s with chan, reads, draws, script := rest }) := by
  rcases step_cases hs h with ⟨a, rfl, rfl⟩ | hw | ⟨ans, rfl, he⟩ | ⟨rfl, rfl⟩ | ⟨b, rfl, rfl⟩ |
    ⟨rfl, -, rfl⟩ | ⟨bs, rfl, -, rfl⟩ | hr | hp
  · obtain ⟨r, d, hr⟩ := hostRead_record a (s.withScript rest)
    exact .inr (.inr (.inr (.inr ⟨by simp, by simp, s.chan, r, d, hr⟩)))
  · exact .inr (.inr (.inl hw))
  · exact .inr (.inr (.inr (.inl ⟨.inr ⟨ans, rfl⟩, engineTurn_move he⟩)))
  · exact .inr (.inr (.inr (.inl ⟨.inl rfl, tickTurn_move _⟩)))
  · exact .inr (.inr (.inr (.inr ⟨by simp, by simp, s.chan ++ [b], s.reads, s.draws, rfl⟩)))
  · exact .inr (.inr (.inr (.inr ⟨by simp, by simp, s.chan.drop 1, s.reads, s.draws, rfl⟩)))
  · exact .inr (.inr (.inr (.inr ⟨by simp, by simp, s.chan, s.reads, s.draws, rfl⟩)))
  · exact .inl hr
  · exact .inr (.inl hp)

end Sys2Proof.Machine
end

section
/-! PROOF. The invariant (10_state.md R21 to R51, 42_sender.md R207, R208): it holds after a reset, at the start of a session and after every move, so every step keeps it. -/

namespace Sys2Proof.Machine

open Sys2Proof.Config

/-! ## No session (R172, R260) -/

/-- With no session running the invariant asks only for what a session does not touch. -/
theorem inv_endSession {s : State} (hp : s.params.wf = true) (hm : Memory.wf s.mem = true)
    (hmm : ∀ c ∈ s.mem, isBuffer s.params c.1 = true) (hc : chkResOk s.chkRes) : Inv (endSession s) where
  params_wf := hp
  mem_wf := hm
  mem_mapped := hmm
  outcome_of_state := rfl
  reason_iff_failed := by simp
  seq_wraps := rfl
  blkIdx_bound := by simp
  totBlk_bound := by simp
  idle_zero _ := ⟨rfl, rfl, rfl, rfl, rfl, rfl, rfl⟩
  inputs_locked h := by cases h
  before_data h := by simp [beforeData] at h
  in_data h := by simp [inData] at h
  after_data h := by simp [afterData] at h
  acked_count h := by cases h
  fail_block := by simp
  no_request h := by cases h
  elapsed_bound := by simp
  wait_running := trivial
  chkRes_form := hc
  cancel_last h := by cases h

theorem chkResOk_zero : chkResOk 0#32 := ⟨rfl, rfl⟩

/-- Settles O52: the reset state is one with no session. -/
theorem resetMeetsTheInvariant : Obligations.ResetMeetsTheInvariant := by
  unfold Obligations.ResetMeetsTheInvariant
  exact inv_endSession (s := State.reset) (by decide) reset_mem_wf (List.forall_mem_nil _) chkResOk_zero

theorem Inv.after_clearReturn {s : State} (h : Inv s) : Inv (clearReturn s) :=
  inv_endSession (s := { s with err := .none }) h.params_wf h.mem_wf h.mem_mapped h.chkRes_form

theorem Inv.after_warmReset {s : State} (h : Inv s) : Inv (warmReset s) :=
  inv_endSession (s := warmReset s) h.params_wf h.mem_wf h.mem_mapped chkResOk_zero

theorem Inv.after_powerOnReset {s : State} (h : Inv s) : Inv (powerOnReset s) :=
  inv_endSession (s := powerOnReset s) h.params_wf rfl (List.forall_mem_nil _) chkResOk_zero

/-! ## The start of a session (R171) -/

/-- The block count of a length that fits the largest payload memory (R6, R35). -/
theorem totalBlocks_le {n : Nat} (h : n ≤ 0xFFFF0000) : totalBlocks n ≤ 0x01FFFE00 := by
  rw [totalBlocks]
  omega

theorem beginSession_totBlk_toNat {s : State} (hp : s.params.wf = true) (hl : s.len ≤ s.params.payloadMax) :
    (beginSession s).totBlk.toNat = totalBlocks s.len.toNat ∧ totalBlocks s.len.toNat ≤ 0x01FFFE00 := by
  obtain ⟨hmax, -⟩ := (params_wf_iff _).1 hp
  have hle := totalBlocks_le (le_trans (BitVec.le_def.1 hl) hmax)
  exact ⟨Nat.mod_eq_of_lt (by omega), hle⟩

theorem Inv.after_beginSession {s : State} (h : Inv s) (hl : s.len ≤ s.params.payloadMax) : Inv (beginSession s) where
  params_wf := h.params_wf
  mem_wf := h.mem_wf
  mem_mapped := h.mem_mapped
  outcome_of_state := rfl
  reason_iff_failed := by simp
  seq_wraps := rfl
  blkIdx_bound := by simp
  totBlk_bound := by
    obtain ⟨htot, hle⟩ := beginSession_totBlk_toNat h.params_wf hl
    exact htot ▸ hle
  idle_zero hi := by cases hi
  inputs_locked _ := ⟨hl, (beginSession_totBlk_toNat h.params_wf hl).1⟩
  before_data _ := ⟨rfl, rfl⟩
  in_data hd := by simp [inData] at hd
  after_data ha := by simp [afterData] at ha
  acked_count _ := by simp
  fail_block := by simp
  no_request hr := by cases hr
  elapsed_bound := by simp
  wait_running := waitRunning_of_zero h.params_wf rfl
  chkRes_form := h.chkRes_form
  cancel_last hf := by cases hf

/-! ## Moves that meet no failure -/

/-- The position (STATE, BLKIDX) and PROGCNT fit together: the invariant's three rules about the data blocks. -/
structure PositionOk (s : State) : Prop where
  before_data : beforeData s.state → s.blkIdx = 1#32 ∧ s.progCnt = 0#32
  in_data : inData s.state →
    1 ≤ s.blkIdx.toNat ∧ s.blkIdx.toNat ≤ s.totBlk.toNat ∧ s.progCnt.toNat + 1 = s.blkIdx.toNat
  after_data : afterData s.state → s.progCnt = s.totBlk ∧ s.blkIdx.toNat = max 1 s.totBlk.toNat

theorem not_inData_of_beforeData {st : SessionState} (h : beforeData st) : ¬ inData st ∧ ¬ afterData st := by
  rcases h with rfl | rfl | rfl | rfl <;> simp [inData, afterData]

theorem not_afterData_of_inData {st : SessionState} (h : inData st) : ¬ beforeData st ∧ ¬ afterData st := by
  rcases h with rfl | rfl <;> simp [beforeData, afterData]

theorem PositionOk.of_beforeData {s : State} (h : beforeData s.state) (hx : s.blkIdx = 1#32 ∧ s.progCnt = 0#32) :
    PositionOk s :=
  ⟨fun _ => hx, fun k => absurd k (not_inData_of_beforeData h).1, fun k => absurd k (not_inData_of_beforeData h).2⟩

theorem PositionOk.of_inData {s : State} (h : inData s.state) (hx : 1 ≤ s.blkIdx.toNat ∧
    s.blkIdx.toNat ≤ s.totBlk.toNat ∧ s.progCnt.toNat + 1 = s.blkIdx.toNat) : PositionOk s :=
  ⟨fun k => absurd k (not_afterData_of_inData h).1, fun _ => hx, fun k => absurd k (not_afterData_of_inData h).2⟩

theorem PositionOk.of_afterData {s : State} (h : afterData s.state)
    (hx : s.progCnt = s.totBlk ∧ s.blkIdx.toNat = max 1 s.totBlk.toNat) : PositionOk s :=
  ⟨fun k => absurd h (not_inData_of_beforeData k).2, fun k => absurd h (not_afterData_of_inData k).2, fun _ => hx⟩

/-- The states of a running session that has met no failure. -/
theorem outcomeOf_eq_pending_iff (st : SessionState) : outcomeOf st = .pending ↔ st.busy = true ∧ st ≠ .failCancel := by
  cases st <;> simp [SessionState.busy, outcomeOf]

/-- A session that has met no failure has no REASON and no FAILBLK (R24, R36). -/
theorem Inv.no_failure {s : State} (h : Inv s) (hs : outcomeOf s.state = .pending) :
    s.reason = .none ∧ s.failBlk = 0#32 := by
  have hr : s.reason = .none := by
    by_contra hne
    have hfail := h.reason_iff_failed.1 hne
    rw [h.outcome_of_state, hs] at hfail
    cases hfail
  have hfb := h.fail_block
  rw [hr] at hfb
  exact ⟨hr, hfb⟩

/-- What `t` needs beside the invariant of `s` if the move from `s` to `t` meets no failure: a wait is entered with ELAPSED = 0 (R37). -/
theorem Inv.of_advance {s t : State} (h : Inv s) (hs : outcomeOf s.state = .pending) (hh : SameHostSide s t)
    (hr : t.reason = s.reason) (hfb : t.failBlk = s.failBlk) (ho : t.outcome = outcomeOf t.state)
    (hgo : outcomeOf t.state = .pending ∨ outcomeOf t.state = .succeeded) (hpos : PositionOk t)
    (hseq : t.seq.toNat = t.blkIdx.toNat % 256) (hblk : t.blkIdx.toNat ≤ max 1 s.totBlk.toNat)
    (hack : t.acked.toNat = min (t.progCnt.toNat * blockSize) s.len.toNat)
    (hel : t.elapsed = 0#32 ∨ t.elapsed = s.elapsed ∧ ∀ e cls, roleOf t.state ≠ .wait e cls) : Inv t := by
  obtain ⟨hr0, hfb0⟩ := h.no_failure hs
  obtain ⟨hlen, htot⟩ := h.inputs_locked ((outcomeOf_eq_pending_iff _).1 hs).1
  rw [hr0] at hr
  constructor
  case params_wf => rw [hh.params]; exact h.params_wf
  case mem_wf => rw [hh.mem]; exact h.mem_wf
  case mem_mapped => rw [hh.mem, hh.params]; exact h.mem_mapped
  case outcome_of_state => exact ho
  case reason_iff_failed => rcases hgo with hgo | hgo <;> simp [hr, ho, hgo]
  case seq_wraps => exact hseq
  case blkIdx_bound => rw [hh.totBlk]; exact hblk
  case totBlk_bound => rw [hh.totBlk]; exact h.totBlk_bound
  case idle_zero => intro hi; simp [hi, outcomeOf] at hgo
  case inputs_locked => rw [hh.len, hh.params, hh.totBlk]; exact fun _ => ⟨hlen, htot⟩
  case before_data => exact hpos.before_data
  case in_data => exact hpos.in_data
  case after_data => exact hpos.after_data
  case acked_count => rw [hh.len]; exact fun _ => hack
  case fail_block => rw [hr, hfb, hfb0]; rfl
  case no_request => rw [hr]; intro hc; cases hc
  case elapsed_bound =>
    rw [hh.params]
    rcases hel with hel | ⟨hel, -⟩ <;> rw [hel]
    · simp
    · exact h.elapsed_bound
  case wait_running =>
    rcases hel with hel | ⟨-, hw⟩
    · exact waitRunning_of_zero (hh.params ▸ h.params_wf) hel
    · unfold waitRunning
      split
      · trivial
      · trivial
      · exact absurd ‹_› (hw _ _)
  case chkRes_form => rw [hh.chkRes]; exact h.chkRes_form
  case cancel_last => intro hf; simp [hf, outcomeOf] at hgo

/-- The same for a transaction that acknowledges no data block and leads to another state of the session. -/
theorem Inv.of_sameCounters {s t : State} (h : Inv s) (hs : outcomeOf s.state = .pending)
    (ht : outcomeOf t.state = .pending) (hh : SameHostSide s t) (hc : SameCounters s t) (hr : t.reason = s.reason)
    (hfb : t.failBlk = s.failBlk) (ho : t.outcome = s.outcome) (hpos : PositionOk t)
    (hel : t.elapsed = 0#32 ∨ t.elapsed = s.elapsed ∧ ∀ e cls, roleOf t.state ≠ .wait e cls) : Inv t := by
  refine h.of_advance hs hh hr hfb ?_ (.inl ht) hpos ?_ ?_ ?_ hel
  · rw [ho, h.outcome_of_state, hs, ht]
  · rw [hc.seq, hc.blkIdx]; exact h.seq_wraps
  · rw [hc.blkIdx]; exact h.blkIdx_bound
  · rw [hc.acked, hc.progCnt]; exact h.acked_count ((outcomeOf_eq_pending_iff _).1 hs).1

section Advance

variable {s : State} {w : SessionState} {c : List Byte} {l : List ChTxn}

/-- A channel transaction that leads to a wait keeps the invariant if the position fits. -/
theorem Inv.of_enterWait (h : Inv s) (hs : outcomeOf s.state = .pending) (hw : outcomeOf w = .pending)
    (hpos : PositionOk (enterWait w { s with chan := c, wire := l })) :
    Inv (enterWait w { s with chan := c, wire := l }) :=
  h.of_sameCounters hs hw ⟨rfl, rfl, rfl, rfl, rfl, rfl, rfl, rfl, rfl, rfl, rfl, rfl⟩ ⟨rfl, rfl, rfl, rfl, rfl⟩ rfl rfl
    rfl hpos (.inl rfl)

/-- A channel transaction that leads to a send state keeps the invariant if the position fits. -/
theorem Inv.of_enterSend (h : Inv s) (hs : outcomeOf s.state = .pending) (hw : outcomeOf w = .pending)
    (hsend : roleOf w = .send) (hpos : PositionOk (enterState w { s with chan := c, wire := l })) :
    Inv (enterState w { s with chan := c, wire := l }) :=
  h.of_sameCounters hs hw ⟨rfl, rfl, rfl, rfl, rfl, rfl, rfl, rfl, rfl, rfl, rfl, rfl⟩ ⟨rfl, rfl, rfl, rfl, rfl⟩ rfl rfl
    rfl hpos (.inr ⟨rfl, by simp [hsend]⟩)

end Advance

/-- The request for data leads to EOT if there is no data block, else to the first one (R184). -/
theorem Inv.after_gotHdrC {s : State} (h : Inv s) (hs : s.state = .awaitHdrC) (rest : List Byte) :
    Inv (enterState (if s.totBlk = 0#32 then .sendEot else .sendData) (afterRead crcReq rest s)) := by
  obtain ⟨hblk, hprog⟩ := h.before_data (by simp [beforeData, hs])
  split
  · rename_i h0
    refine h.of_enterSend (by rw [hs]; rfl) rfl rfl (.of_afterData (by simp [afterData]) ?_)
    simp [hblk, hprog, h0]
  · rename_i h0
    have hpos : 1 ≤ s.totBlk.toNat := Nat.pos_of_ne_zero fun hz => h0 (BitVec.eq_of_toNat_eq hz)
    refine h.of_enterSend (by rw [hs]; rfl) rfl rfl (.of_inData (by simp [inData]) ?_)
    simpa [hblk, hprog] using hpos

/-- During the data blocks no counter wraps (R32, R35). -/
theorem Inv.counters_succ {s : State} (h : Inv s) (hd : inData s.state) :
    (s.blkIdx + 1#32).toNat = s.blkIdx.toNat + 1 ∧ (s.progCnt + 1#32).toNat = s.blkIdx.toNat := by
  obtain ⟨-, hle, hprog⟩ := h.in_data hd
  have htot := h.totBlk_bound
  constructor <;> rw [BitVec.toNat_add_of_lt] <;> simp <;> omega

/-- ACKED after a data block's ACK is the count of the acknowledged blocks' bytes (R186, R207). -/
theorem Inv.ackedBytes_eq {s : State} (h : Inv s) (hd : inData s.state) :
    (ackedBytes s).toNat = min ((s.progCnt + 1#32).toNat * blockSize) s.len.toNat := by
  rw [(h.counters_succ hd).2]
  exact ackedBytes_toNat s

/-- The last data block's ACK leads past the data blocks (R186, R208). -/
theorem Inv.after_gotLastAck {s : State} (h : Inv s) (hs : s.state = .awaitDataAck) (hl : s.blkIdx = s.totBlk)
    (rest : List Byte) : Inv (enterState .sendEot (countBlock (afterRead ackByte rest s))) := by
  have hd : inData s.state := .inr hs
  obtain ⟨hge, -, -⟩ := h.in_data hd
  have hp : outcomeOf s.state = .pending := by rw [hs]; rfl
  refine h.of_advance hp ⟨rfl, rfl, rfl, rfl, rfl, rfl, rfl, rfl, rfl, rfl, rfl, rfl⟩ rfl rfl ?_ (.inl rfl)
    (.of_afterData (by simp [afterData]) ?_) h.seq_wraps h.blkIdx_bound (h.ackedBytes_eq hd)
    (.inr ⟨rfl, by simp [roleOf]⟩)
  · exact h.outcome_of_state.trans hp
  · have hprog : s.progCnt + 1#32 = s.totBlk := BitVec.eq_of_toNat_eq (by rw [(h.counters_succ hd).2, hl])
    exact ⟨hprog, by simp [afterRead, ← hl]; omega⟩

/-- Any other data block's ACK leads to the next block, which there is (R186, R200). -/
theorem Inv.after_gotDataAck {s : State} (h : Inv s) (hs : s.state = .awaitDataAck) (hl : s.blkIdx ≠ s.totBlk)
    (rest : List Byte) : Inv (nextBlock (countBlock (afterRead ackByte rest s))) := by
  have hd : inData s.state := .inr hs
  obtain ⟨hge, hle, -⟩ := h.in_data hd
  obtain ⟨hblk, hprog⟩ := h.counters_succ hd
  have hp : outcomeOf s.state = .pending := by rw [hs]; rfl
  have hlt : s.blkIdx.toNat + 1 ≤ s.totBlk.toNat := by
    have hne : s.blkIdx.toNat ≠ s.totBlk.toNat := fun heq => hl (BitVec.eq_of_toNat_eq heq)
    omega
  refine h.of_advance hp ⟨rfl, rfl, rfl, rfl, rfl, rfl, rfl, rfl, rfl, rfl, rfl, rfl⟩ rfl rfl ?_ (.inl rfl)
    (.of_inData (by simp [inData]) ?_) ?_ ?_ (h.ackedBytes_eq hd) (.inr ⟨rfl, by simp [roleOf]⟩)
  · exact h.outcome_of_state.trans hp
  · exact ⟨by simp [afterRead, hblk], by simpa [afterRead, hblk] using hlt, by simp [afterRead, hblk, hprog]⟩
  · have hseq := h.seq_wraps
    simp only [afterRead, nextBlock_seq, nextBlock_blkIdx, countBlock_seq, countBlock_blkIdx, recordTxn_seq,
      recordTxn_blkIdx, hblk, BitVec.toNat_add, BitVec.toNat_ofNat]
    omega
  · simp only [afterRead, nextBlock_blkIdx, countBlock_blkIdx, recordTxn_blkIdx, hblk]
    omega

/-- The last ACK ends the session in SUCCEEDED (R191). -/
theorem Inv.after_gotFinalAck {s : State} (h : Inv s) (hs : s.state = .awaitFinalAck) (rest : List Byte) :
    Inv { afterRead ackByte rest s with outcome := .succeeded, state := .succeeded } :=
  h.of_advance (by rw [hs]; rfl) ⟨rfl, rfl, rfl, rfl, rfl, rfl, rfl, rfl, rfl, rfl, rfl, rfl⟩ rfl rfl rfl (.inr rfl)
    (.of_afterData (by simp [afterData]) (h.after_data (by simp [afterData, hs]))) h.seq_wraps h.blkIdx_bound
    (h.acked_count (by rw [State.busy, hs]; rfl)) (.inr ⟨rfl, by simp [roleOf]⟩)

/-! ## Ticks and failures -/

/-- A tick that does not end the wait (R212). -/
theorem Inv.after_counted {s : State} {e : Byte} {cls : WaitClass} (h : Inv s) (hr : roleOf s.state = .wait e cls)
    (hlt : (s.elapsed + 1#32).toNat < cls.ticks s.params) : Inv (advanceElapsed s) :=
  { h with
    idle_zero := fun hi => by simp [show s.state = .idle from hi, roleOf] at hr
    elapsed_bound := le_trans hlt.le (ticks_le s.params cls)
    wait_running := by simpa [waitRunning, hr] using hlt }

/-- While a wait runs the next tick does not wrap ELAPSED (R37). -/
theorem Inv.elapsed_succ {s : State} {e : Byte} {cls : WaitClass} (h : Inv s) (hr : roleOf s.state = .wait e cls) :
    (s.elapsed + 1#32).toNat = s.elapsed.toNat + 1 ∧ s.elapsed.toNat < cls.ticks s.params := by
  have hrun : s.elapsed.toNat < cls.ticks s.params := by simpa [waitRunning, hr] using h.wait_running
  obtain ⟨-, -, hinit, -, hack⟩ := (params_wf_iff _).1 h.params_wf
  have hticks := ticks_le s.params cls
  exact ⟨BitVec.toNat_add_of_lt (by simp; omega), hrun⟩

/-- Before the first data block nothing is acknowledged (R34). -/
theorem Inv.acked_beforeData {s : State} (h : Inv s) (hb : s.busy = true) (hd : beforeData s.state) :
    s.blkIdx = 1#32 ∧ s.seq = 1#8 ∧ s.acked = 0#32 := by
  obtain ⟨hblk, hprog⟩ := h.before_data hd
  have hseq := h.seq_wraps
  have hack := h.acked_count hb
  rw [hblk] at hseq
  rw [hprog] at hack
  exact ⟨hblk, BitVec.eq_of_toNat_eq hseq, BitVec.eq_of_toNat_eq (by simpa using hack)⟩

/-- A failure keeps the invariant (R240 to R245). -/
theorem Inv.of_fails {s t : State} (h : Inv s) (hf : Fails s t) : Inv t := by
  obtain ⟨hb, hnot, hh, hc, hst, ho, hr, hreq, hfb, hel⟩ := hf
  obtain ⟨hlen, htot⟩ := h.inputs_locked hb
  have hfb0 := (h.no_failure ((outcomeOf_eq_pending_iff _).2 ⟨hb, hnot⟩)).2
  constructor
  case params_wf => rw [hh.params]; exact h.params_wf
  case mem_wf => rw [hh.mem]; exact h.mem_wf
  case mem_mapped => rw [hh.mem, hh.params]; exact h.mem_mapped
  case outcome_of_state => rw [ho, hst]; rfl
  case reason_iff_failed => simp [hr, ho]
  case seq_wraps => rw [hc.seq, hc.blkIdx]; exact h.seq_wraps
  case blkIdx_bound => rw [hc.blkIdx, hh.totBlk]; exact h.blkIdx_bound
  case totBlk_bound => rw [hh.totBlk]; exact h.totBlk_bound
  case idle_zero => simp [hst]
  case inputs_locked => rw [hh.len, hh.params, hh.totBlk]; exact fun _ => ⟨hlen, htot⟩
  case before_data => simp [hst, beforeData]
  case in_data => simp [hst, inData]
  case after_data => simp [hst, afterData]
  case acked_count => rw [hc.acked, hc.progCnt, hh.len]; exact fun _ => h.acked_count hb
  case fail_block =>
    split at hfb
    · rw [if_pos ‹_›, hfb.2, hc.blkIdx, hc.progCnt]
      obtain ⟨-, -, hprog⟩ := h.in_data (.inr hfb.1)
      exact ⟨rfl, hprog⟩
    · rw [if_neg ‹_›, hfb, hfb0]
  case no_request =>
    intro hn
    rw [hc.blkIdx, hc.seq, hc.acked]
    exact h.acked_beforeData hb (.inl (hreq hn))
  case elapsed_bound =>
    rw [hh.params]
    rcases hel with hel | ⟨⟨e, cls, hw⟩, hel⟩ <;> rw [hel]
    · exact h.elapsed_bound
    · obtain ⟨hsucc, hlt⟩ := h.elapsed_succ hw
      exact hsucc ▸ le_trans hlt (ticks_le _ cls)
  case wait_running => simp [waitRunning, hst, roleOf]
  case chkRes_form => rw [hh.chkRes]; exact h.chkRes_form
  case cancel_last => simp [hst]

/-- The answered cancel write ends the session in FAILED, its pair last on the wire (R192). -/
theorem Inv.after_cancelled {s : State} (h : Inv s) (hs : s.state = .failCancel) (ok : Bool) :
    Inv (enterState .failed (recordTxn (.wrote cancelPair ok) s)) :=
  { h with
    outcome_of_state := by rw [enterState_outcome, recordTxn_outcome, h.outcome_of_state, hs]; rfl
    idle_zero := fun hi => by cases hi
    inputs_locked := fun hb => by cases hb
    before_data := by simp [beforeData]
    in_data := by simp [inData]
    after_data := by simp [afterData]
    acked_count := fun hb => by cases hb
    wait_running := trivial
    cancel_last := fun _ => ⟨ok, by simp⟩ }

/-! ## Every move keeps the invariant -/

theorem Inv.of_move {s t : State} (h : Inv s) (hm : Move s t) : Inv t := by
  cases hm with
  | quiet => exact h
  | counted hr hlt => exact h.after_counted hr hlt
  | sentHeader hs _ =>
    exact h.of_enterWait (by rw [hs]; rfl) rfl
      (.of_beforeData (by simp [beforeData]) (h.before_data (by simp [beforeData, hs])))
  | sentData hs _ =>
    exact h.of_enterWait (by rw [hs]; rfl) rfl (.of_inData (by simp [inData]) (h.in_data (by simp [inData, hs])))
  | sentEot hs =>
    exact h.of_enterWait (by rw [hs]; rfl) rfl
      (.of_afterData (by simp [afterData]) (h.after_data (by simp [afterData, hs])))
  | sentFinalHeader hs =>
    exact h.of_enterWait (by rw [hs]; rfl) rfl
      (.of_afterData (by simp [afterData]) (h.after_data (by simp [afterData, hs])))
  | cancelled ok hs => exact h.after_cancelled hs ok
  | gotInitialC rest hs =>
    exact h.of_enterSend (by rw [hs]; rfl) rfl rfl
      (.of_beforeData (by simp [beforeData]) (h.before_data (by simp [beforeData, hs])))
  | gotHdrAck rest hs =>
    exact h.of_enterWait (by rw [hs]; rfl) rfl
      (.of_beforeData (by simp [beforeData]) (h.before_data (by simp [beforeData, hs])))
  | gotHdrC rest hs => exact h.after_gotHdrC hs rest
  | gotLastAck rest hs hl => exact h.after_gotLastAck hs hl rest
  | gotDataAck rest hs hl => exact h.after_gotDataAck hs hl rest
  | gotEotAck rest hs =>
    exact h.of_enterWait (by rw [hs]; rfl) rfl
      (.of_afterData (by simp [afterData]) (h.after_data (by simp [afterData, hs])))
  | gotFinalC rest hs =>
    exact h.of_enterSend (by rw [hs]; rfl) rfl rfl
      (.of_afterData (by simp [afterData]) (h.after_data (by simp [afterData, hs])))
  | gotFinalAck rest hs => exact h.after_gotFinalAck hs rest
  | failed hf => exact h.of_fails hf

/-! ## Every step keeps the invariant -/

/-- The host's registers that no running session reads, the records and the channel may change freely. -/
theorem Inv.of_hostFields {s : State} (h : Inv s) {err : CmdError} {acc : Half} {nameLen : Byte} {fbIdx : Word}
    {chan : List Byte} {reads : List Word} {draws : Nat} {script : List Event} :
    Inv { s with err, acc, nameLen, fbIdx, chan, reads, draws, script } := { h with }

/-- FRAME is a buffer (R61). -/
theorem isBuffer_of_inFrame {a n : Nat} (hn : n = 133) (h : 0x200 ≤ a ∧ a < 0x200 + n) (p : Params) :
    isBuffer p a = true := (isBuffer_iff p a).2 (.inr (.inl (by omega)))

theorem Inv.after_raiseCmdError {s : State} (h : Inv s) (c : CmdError) : Inv (raiseCmdError c s) := by
  unfold raiseCmdError
  split
  · exact h.of_hostFields
  · exact h

theorem Inv.of_exec {i : Instr} {s t : State} (h : Inv s) (he : exec i s = .next t) : Inv t := by
  rcases exec_next he with ⟨-, rfl⟩ | ⟨-, ⟨-, rfl⟩ | ⟨-, x, rfl⟩ | ⟨-, -, f, hf, rfl⟩ | ⟨-, -, f, rfl⟩ |
    ⟨-, -, hl, rfl⟩ | ⟨-, -, rfl⟩⟩
  · exact h.after_raiseCmdError _
  · exact h
  · exact h.of_hostFields
  · exact { h with
      mem_wf := Memory.writeRange_keeps_wf _ _ h.mem_wf
      mem_mapped := fun c hc => (Memory.mem_writeRange hc).elim (isBuffer_of_inFrame hf · _) (h.mem_mapped c) }
  · exact { h with chkRes_form := checkFrame_chkResOk f s.fbIdx }
  · exact h.after_beginSession hl
  · exact h.after_clearReturn

theorem Inv.of_hostWrite {a w : Word} {s t : State} (h : Inv s) (he : hostWrite a w s = .next t) : Inv t := by
  rcases hostWrite_next he with rfl | ⟨c, rfl⟩ | ⟨hb, ⟨x, rfl⟩ | ⟨x, rfl⟩ | ⟨x, rfl⟩ | ⟨hbuf, rfl⟩⟩ | ⟨-, i, -, hi⟩
  · exact h
  · exact h.after_raiseCmdError c
  · exact { h with
      inputs_locked := fun hb' => absurd (hb.symm.trans hb') Bool.false_ne_true
      acked_count := fun hb' => absurd (hb.symm.trans hb') Bool.false_ne_true }
  · exact h.of_hostFields
  · exact h.of_hostFields
  · exact { h with
      mem_wf := Memory.write_keeps_wf _ _ h.mem_wf
      mem_mapped := fun c hc => (Memory.mem_write hc).elim (fun heq => heq ▸ hbuf) (h.mem_mapped c) }
  · exact h.of_exec hi

/-- Settles O53: one agent's step at a time; the engine's and the tick's are moves. -/
theorem everyStepKeepsTheInvariant : Obligations.EveryStepKeepsTheInvariant := by
  unfold Obligations.EveryStepKeepsTheInvariant
  intro s t h hstep
  obtain ⟨e, rest, hs, -⟩ := step_next hstep
  have hv : Inv (s.withScript rest) := h.of_hostFields
  rcases step_agent_cases hs hstep with ⟨-, rfl⟩ | ⟨-, rfl⟩ | ⟨a, w, -, hw⟩ | ⟨-, hm⟩ | ⟨-, -, c, r, d, rfl⟩
  · exact hv.after_warmReset
  · exact hv.after_powerOnReset
  · exact hv.of_hostWrite hw
  · exact hv.of_move hm
  · exact h.of_hostFields

end Sys2Proof.Machine
end

section
/-! PROOF. Who writes what (10_state.md R21, R25, R27, R31, R39, R51, 20_memory.md R66, R81): the registers a step may change, by the agent that takes it. -/

namespace Sys2Proof.Machine

open Sys2Proof.Config

/-! ## Host writes -/

theorem raiseCmdError_eq (c : CmdError) (s : State) : raiseCmdError c s = { s with err := (raiseCmdError c s).err } := by
  unfold raiseCmdError
  split <;> rfl

/-- What a host write can do, with the command of a word written to CMD run (R62 to R66, R91, R92). -/
theorem hostWrite_effects {a w : Word} {s t : State} (h : hostWrite a w s = .next t) :
    (∃ c, t = { s with err := c } ∧ (s.err ≠ .none → c = s.err)) ∨
    (a = 0#32 ∧ (w = encode .crcInit ∨ ∃ b, w = encode (.crcByte b)) ∧ ∃ x, t = { s with acc := x }) ∨
    (s.busy = false ∧ ((∃ l n f m, t = { s with len := l, nameLen := n, fbIdx := f, mem := m }) ∨
      (a = 0#32 ∧ w = encode .frameCheck ∧ ∃ x, t = { s with chkRes := x }) ∨
      (a = 0#32 ∧ w = encode .start ∧ t = beginSession s) ∨
      (a = 0#32 ∧ w = encode .clear ∧ t = clearReturn s))) := by
  have hraise (c : CmdError) : ∃ c', raiseCmdError c s = { s with err := c' } ∧ (s.err ≠ .none → c' = s.err) :=
    ⟨_, raiseCmdError_eq c s, fun hne => by simp [hne]⟩
  rcases hostWrite_next h with rfl | ⟨c, rfl⟩ | ⟨hb, ⟨x, rfl⟩ | ⟨x, rfl⟩ | ⟨x, rfl⟩ | ⟨-, rfl⟩⟩ | ⟨ha, i, hd, hi⟩
  · exact .inl ⟨_, rfl, fun _ => rfl⟩
  · exact .inl (hraise c)
  · exact .inr (.inr ⟨hb, .inl ⟨_, _, _, _, rfl⟩⟩)
  · exact .inr (.inr ⟨hb, .inl ⟨_, _, _, _, rfl⟩⟩)
  · exact .inr (.inr ⟨hb, .inl ⟨_, _, _, _, rfl⟩⟩)
  · exact .inr (.inr ⟨hb, .inl ⟨_, _, _, _, rfl⟩⟩)
  · obtain rfl := decode_eq_ok_iff.1 hd
    rcases exec_next hi with ⟨-, rfl⟩ | ⟨-, ⟨-, rfl⟩ | ⟨hc, x, rfl⟩ | ⟨-, hb, f, -, rfl⟩ | ⟨rfl, hb, f, rfl⟩ |
      ⟨rfl, hb, -, rfl⟩ | ⟨rfl, hb, rfl⟩⟩
    · exact .inl (hraise _)
    · exact .inl ⟨_, rfl, fun _ => rfl⟩
    · exact .inr (.inl ⟨ha, hc.imp (congrArg encode) (Exists.imp fun _ => congrArg encode), x, rfl⟩)
    · exact .inr (.inr ⟨hb, .inl ⟨_, _, _, _, rfl⟩⟩)
    · exact .inr (.inr ⟨hb, .inr (.inl ⟨ha, rfl, _, rfl⟩)⟩)
    · exact .inr (.inr ⟨hb, .inr (.inr (.inl ⟨ha, rfl, rfl⟩))⟩)
    · exact .inr (.inr ⟨hb, .inr (.inr (.inr ⟨ha, rfl, rfl⟩))⟩)

/-- While busy a host write reaches ERR and ACC alone (R66, R233). -/
theorem hostWrite_of_busy {a w : Word} {s t : State} (hb : s.busy = true) (h : hostWrite a w s = .next t) :
    t = { s with err := t.err, acc := t.acc } := by
  rcases hostWrite_effects h with ⟨c, rfl, -⟩ | ⟨-, -, x, rfl⟩ | ⟨hb', -⟩
  · rfl
  · rfl
  · simp [hb] at hb'

/-! ## Moves -/

/-- A session moves only while busy (R193, R213). -/
theorem Move.eq_of_idle {s t : State} (h : Move s t) (hb : s.busy = false) : t = s := by
  have hne {st : SessionState} (hst : s.state = st) : st.busy = false := hst ▸ hb
  cases h with
  | quiet => rfl
  | counted hr _ => simp [busy_of_wait hr] at hb
  | failed hf => simp [hf.busy] at hb
  | sentHeader hs _ | sentData hs _ | sentEot hs | sentFinalHeader hs | cancelled _ hs | gotInitialC _ hs
  | gotHdrAck _ hs | gotHdrC _ hs | gotLastAck _ hs _ | gotDataAck _ hs _ | gotEotAck _ hs | gotFinalC _ hs
  | gotFinalAck _ hs => cases hne hs

/-! ## The obligations -/

/-- Settles O26: only CLEAR and a reset write an ERR that is set, and they clear it. -/
theorem errChangesOnlyByClearOrReset : Obligations.ErrChangesOnlyByClearOrReset := by
  unfold Obligations.ErrChangesOnlyByClearOrReset
  intro s t e rest hs herr h hne
  rcases step_agent_cases hs h with ⟨he, rfl⟩ | ⟨he, rfl⟩ | ⟨a, w, rfl, hw⟩ | ⟨-, hm⟩ | ⟨-, -, c, r, d, rfl⟩
  · exact ⟨rfl, .inl he⟩
  · exact ⟨rfl, .inr (.inl he)⟩
  · rcases hostWrite_effects hw with ⟨c, rfl, hc⟩ | ⟨-, -, x, rfl⟩ | ⟨hb, ⟨l, n, f, m, rfl⟩ | ⟨-, -, x, rfl⟩ |
      ⟨-, -, rfl⟩ | ⟨rfl, rfl, rfl⟩⟩
    · exact absurd (hc herr) hne
    · exact absurd rfl hne
    · exact absurd rfl hne
    · exact absurd rfl hne
    · exact absurd rfl hne
    · exact ⟨rfl, .inr (.inr ⟨rfl, hb⟩)⟩
  · exact absurd hm.sameHostSide.err hne
  · exact absurd rfl hne

/-- Settles O45: START and CLEAR while not busy, a move while busy, or a reset. -/
theorem whoWritesState : Obligations.WhoWritesState := by
  unfold Obligations.WhoWritesState
  intro s t e rest hs h hne
  rcases step_agent_cases hs h with ⟨he, -⟩ | ⟨he, -⟩ | ⟨a, w, rfl, hw⟩ | ⟨he, hm⟩ | ⟨-, -, c, r, d, rfl⟩
  · exact .inl (.inl he)
  · exact .inl (.inr he)
  · rcases hostWrite_effects hw with ⟨c, rfl, -⟩ | ⟨-, -, x, rfl⟩ | ⟨hb, ⟨l, n, f, m, rfl⟩ | ⟨-, -, x, rfl⟩ |
      ⟨rfl, rfl, rfl⟩ | ⟨rfl, rfl, rfl⟩⟩
    · exact absurd rfl hne
    · exact absurd rfl hne
    · exact absurd rfl hne
    · exact absurd rfl hne
    · exact .inr (.inl ⟨hb, .inl ⟨rfl, rfl⟩⟩)
    · exact .inr (.inl ⟨hb, .inr ⟨rfl, rfl⟩⟩)
  · refine .inr (.inr ⟨?_, he⟩)
    by_contra hb
    exact hne (by rw [hm.eq_of_idle (by simpa using hb)]; rfl)
  · exact absurd rfl hne

/-- Settles O46: a host write while busy leaves the inputs, and so does every other step that is no reset. -/
theorem inputsLockedWhileBusy : Obligations.InputsLockedWhileBusy := by
  unfold Obligations.InputsLockedWhileBusy
  intro s t e rest hs h hr hp hlock
  rcases step_agent_cases hs h with ⟨he, -⟩ | ⟨he, -⟩ | ⟨a, w, he, hw⟩ | ⟨-, hm⟩ | ⟨-, -, c, r, d, rfl⟩
  · exact absurd he hr
  · exact absurd he hp
  · have hb : s.busy = true := hlock.resolve_right fun hno => hno a w he
    rw [hostWrite_of_busy (s := s.withScript rest) hb hw]
    exact ⟨rfl, rfl, rfl, fun _ => rfl⟩
  · have hh := hm.sameHostSide
    exact ⟨hh.len, hh.nameLen, hh.fbIdx, fun a => by rw [hh.mem]; rfl⟩
  · exact ⟨rfl, rfl, rfl, fun _ => rfl⟩

/-- Settles O47: a read moves its records, a write while busy ERR or ACC. -/
theorem hostCannotDisturbSession : Obligations.HostCannotDisturbSession := by
  unfold Obligations.HostCannotDisturbSession
  rintro s t e rest hs h hb (⟨a, rfl⟩ | ⟨a, w, rfl⟩) <;> rw [step_cons hs] at h
  · obtain rfl : hostRead a (s.withScript rest) = t := by simpa [runEvent] using h
    obtain ⟨r, d, hr⟩ := hostRead_record a (s.withScript rest)
    rw [hr]
    rfl
  · rw [hostWrite_of_busy (s := s.withScript rest) hb h]
    rfl

/-- Settles O49, by what a host write can do; no move writes the host's side. -/
theorem whoWritesCheckResultAccAndCap : Obligations.WhoWritesCheckResultAccAndCap := by
  unfold Obligations.WhoWritesCheckResultAccAndCap
  intro s t e rest hs h
  rcases step_agent_cases hs h with ⟨he, rfl⟩ | ⟨he, rfl⟩ | ⟨a, w, rfl, hw⟩ | ⟨-, hm⟩ | ⟨-, -, c, r, d, rfl⟩
  · exact ⟨rfl, fun _ => .inl he, fun _ => .inl he⟩
  · exact ⟨rfl, fun _ => .inr (.inl he), fun _ => .inr (.inl he)⟩
  · rcases hostWrite_effects hw with ⟨c, rfl, -⟩ | ⟨rfl, hcmd, x, rfl⟩ | ⟨-, ⟨l, n, f, m, rfl⟩ | ⟨rfl, rfl, x, rfl⟩ |
      ⟨-, -, rfl⟩ | ⟨-, -, rfl⟩⟩
    · exact ⟨rfl, absurd rfl, absurd rfl⟩
    · refine ⟨rfl, absurd rfl, fun _ => .inr (.inr ?_)⟩
      rcases hcmd with rfl | ⟨b, rfl⟩
      · exact .inl rfl
      · exact .inr ⟨b, rfl⟩
    · exact ⟨rfl, absurd rfl, absurd rfl⟩
    · exact ⟨rfl, fun _ => .inr (.inr rfl), absurd rfl⟩
    · exact ⟨rfl, absurd rfl, absurd rfl⟩
    · exact ⟨rfl, absurd rfl, absurd rfl⟩
  · have hh := hm.sameHostSide
    exact ⟨hh.params, absurd hh.chkRes, absurd hh.acc⟩
  · exact ⟨rfl, absurd rfl, absurd rfl⟩

end Sys2Proof.Machine
end

section
/-! PROOF. Non-interference (20_memory.md R81, 40_checksum.md R126): the session does not depend on the host's side, and only the CRC commands, a read of CRC and a reset touch ACC. -/

namespace Sys2Proof.Machine

open Sys2Proof.Config

/-! ## The host's side of a state -/

/-- What the host can change during a session or what no session reads: ERR, ACC, CHKRES, FBIDX, and memory, of which FRAME is meant (R81, R126, R41). -/
structure HostSide where
  err : CmdError
  acc : Half
  chkRes : Word
  fbIdx : Word
  mem : Memory

/-- `s` with the host's side `k`. -/
def State.withHost (s : State) (k : HostSide) : State :=
  { s with err := k.err, acc := k.acc, chkRes := k.chkRes, fbIdx := k.fbIdx, mem := k.mem }

/-- `f` applied to the next state, if there is one. -/
def mapNext (f : State → State) : Host.Outcome State Fault Refusal → Host.Outcome State Fault Refusal
  | .next t => .next (f t)
  | .fault r => .fault r
  | .refused r => .refused r

/-- The two memories differ only in FRAME. -/
def SameInputs (m m' : Memory) : Prop := ∀ a, inFrame a = false → m.read a = m'.read a

section Session

variable {s : State} {k : HostSide}

/-! ## What the session reads of memory -/

theorem notInFrame_of_lt {a : Nat} (h : a < 0x200) : inFrame a = false := by
  rw [← Bool.not_eq_true, inFrame_iff]
  omega

theorem notInFrame_of_ge {a : Nat} (h : 0x10000 ≤ a) : inFrame a = false := by
  rw [← Bool.not_eq_true, inFrame_iff]
  omega

theorem name_notInFrame {i : Nat} (hi : i < nameUsed s) : inFrame (nameBase + i) = false := by
  have hle := nameUsed_le s
  exact notInFrame_of_lt (by simp only [nameBase]; omega)

theorem nameReference_withHost (hm : SameInputs k.mem s.mem) :
    nameReference (s.withHost k) = nameReference s :=
  List.map_congr_left fun _ hi => hm _ (name_notInFrame (List.mem_range.1 hi))

theorem nameBytes_withHost (hm : SameInputs k.mem s.mem) : nameBytes (s.withHost k) = nameBytes s :=
  Memory.readRange_congr fun _ hi => hm _ (name_notInFrame (s := s) hi)

theorem payloadSlice_withHost (hm : SameInputs k.mem s.mem) (n : Nat) :
    payloadSlice (s.withHost k) n = payloadSlice s n :=
  Memory.readRange_congr fun _ _ => hm _ (notInFrame_of_ge (by simp only [payloadBase]; omega))

theorem headerFrame_withHost (hm : SameInputs k.mem s.mem) : headerFrame (s.withHost k) = headerFrame s := by
  rw [headerFrame, headerPayload, nameBytes_withHost hm]
  rfl

theorem dataFrame_withHost (hm : SameInputs k.mem s.mem) (num : Byte) (n : Nat) :
    dataFrame (s.withHost k) num n = dataFrame s num n := by
  rw [dataFrame, dataPayload, payloadSlice_withHost hm]
  rfl

theorem bytesToSend_withHost (hm : SameInputs k.mem s.mem) : bytesToSend (s.withHost k) = bytesToSend s := by
  rw [bytesToSend, headerFrame_withHost hm, dataFrame_withHost hm]
  rfl

/-! ## The transitions -/

theorem countBlock_withHost (hm : SameInputs k.mem s.mem) :
    countBlock (s.withHost k) = (countBlock s).withHost k := by
  rw [countBlock, nameReference_withHost hm]
  rfl

theorem dataBlockAcked_withHost (hm : SameInputs k.mem s.mem) :
    dataBlockAcked (s.withHost k) = (dataBlockAcked s).withHost k := by
  rw [dataBlockAcked, countBlock_withHost hm, dataBlockAcked, apply_ite (State.withHost · k)]
  rfl

theorem onMatch_withHost (hm : SameInputs k.mem s.mem) : onMatch (s.withHost k) = (onMatch s).withHost k := by
  have hst : (s.withHost k).state = s.state := rfl
  unfold onMatch
  rw [hst, dataBlockAcked_withHost hm]
  cases s.state with
  | awaitHdrC => exact Eq.symm (apply_ite (State.withHost · k) ..)
  | _ => rfl

theorem onMiss_withHost : onMiss (s.withHost k) = (onMiss s).withHost k := by
  have hst : (s.withHost k).state = s.state := rfl
  unfold onMiss
  rw [hst]
  cases s.state <;> rfl

theorem onByte_withHost (hm : SameInputs k.mem s.mem) (e b : Byte) :
    onByte e b (s.withHost k) = (onByte e b s).withHost k := by
  rw [onByte, onMatch_withHost hm, onMiss_withHost, ← apply_ite (State.withHost · k)]
  rfl

theorem afterWriteOk_withHost : afterWriteOk (s.withHost k) = (afterWriteOk s).withHost k := by
  have hst : (s.withHost k).state = s.state := rfl
  unfold afterWriteOk
  rw [hst]
  cases s.state <;> rfl

theorem afterWriteErr_withHost : afterWriteErr (s.withHost k) = (afterWriteErr s).withHost k := by
  rw [afterWriteErr, afterWriteErr, apply_ite (State.withHost · k)]
  rfl

/-! ## The engine's turn and the tick -/

theorem sendTurn_withHost (hm : SameInputs k.mem s.mem) (ans : ChAnswer) :
    sendTurn ans (s.withHost k) = mapNext (State.withHost · k) (sendTurn ans s) := by
  cases ans with
  | silent => rfl
  | ok =>
    rw [sendTurn, sendTurn, bytesToSend_withHost hm]
    cases bytesToSend s with
    | ok bs => exact congrArg _ (afterWriteOk_withHost (s := recordTxn _ s))
    | error a => rfl
  | err =>
    rw [sendTurn, sendTurn, bytesToSend_withHost hm]
    cases bytesToSend s with
    | ok bs => exact congrArg _ (afterWriteErr_withHost (s := recordTxn _ s))
    | error a => rfl

theorem waitTurn_withHost (hm : SameInputs k.mem s.mem) (e : Byte) (ans : ChAnswer) :
    waitTurn e ans (s.withHost k) = (waitTurn e ans s).withHost k := by
  have hch : (s.withHost k).chan = s.chan := rfl
  cases ans with
  | silent => rfl
  | err => rfl
  | ok =>
    rw [waitTurn, waitTurn, hch]
    cases s.chan with
    | nil => rfl
    | cons b rest => exact onByte_withHost (s := afterRead b rest s) hm e b

/-- The engine's turn does not depend on the host's side (R81, R126, R41). -/
theorem engineTurn_withHost (hm : SameInputs k.mem s.mem) (ans : ChAnswer) :
    engineTurn ans (s.withHost k) = mapNext (State.withHost · k) (engineTurn ans s) := by
  have hst : (s.withHost k).state = s.state := rfl
  rw [engineTurn, engineTurn, hst]
  cases roleOf s.state with
  | rest => rfl
  | send => exact sendTurn_withHost hm ans
  | wait e cls => exact congrArg _ (waitTurn_withHost hm e ans)

/-- The tick does not depend on the host's side. -/
theorem tickTurn_withHost : tickTurn (s.withHost k) = (tickTurn s).withHost k := by
  have hst : (s.withHost k).state = s.state := rfl
  have hmiss : onMiss (advanceElapsed (s.withHost k)) = (onMiss (advanceElapsed s)).withHost k :=
    onMiss_withHost (s := advanceElapsed s)
  rw [tickTurn, tickTurn, hst, hmiss]
  cases roleOf s.state with
  | rest => rfl
  | send => rfl
  | wait e cls => exact Eq.symm (apply_ite (State.withHost · k) ..)

end Session

/-- Settles O48: the turn and the tick commute with a change of the host's side. -/
theorem sessionIgnoresHostState : Obligations.SessionIgnoresHostState := by
  unfold Obligations.SessionIgnoresHostState
  intro s err acc chk fb mem hm
  refine ⟨fun ans t h => ?_, tickTurn_withHost (k := ⟨err, acc, chk, fb, mem⟩)⟩
  have hk := engineTurn_withHost (k := ⟨err, acc, chk, fb, mem⟩) hm ans
  rw [h] at hk
  exact hk

/-! ## ACC (R126) -/

/-- `s` with `x` in ACC. -/
def State.withAcc (x : Half) (s : State) : State := { s with acc := x }

section Acc

variable {s t : State} {x : Half}

theorem regAt_crc {a : Nat} (h : regAt a = some .crc) : a = 0x002 := by
  unfold regAt at h
  split at h <;> cases h
  rfl

/-- Only a read of CRC sees ACC. -/
theorem hostRead_withAcc {a : Word} (ha : a ≠ 0x002#32) : hostRead a (s.withAcc x) = (hostRead a s).withAcc x := by
  have hreg : regAt a.toNat ≠ some .crc := fun h => ha (BitVec.eq_of_toNat_eq (regAt_crc h))
  have hword : readWord a.toNat (s.withAcc x) = readWord a.toNat s := by
    unfold readWord
    cases hr : regAt a.toNat with
    | none => rfl
    | some r =>
      cases r with
      | crc => exact absurd hr hreg
      | _ => rfl
  rw [hostRead, hostRead, hword]
  cases readWord a.toNat s <;> rfl

theorem raiseCmdError_withAcc (c : CmdError) : raiseCmdError c (s.withAcc x) = (raiseCmdError c s).withAcc x := by
  rw [raiseCmdError, raiseCmdError, apply_ite (State.withAcc x)]
  rfl

theorem storeFrame_withAcc (f : List Byte) : storeFrame f (s.withAcc x) = (storeFrame f s).withAcc x := rfl

theorem unlessBusy_withAcc {act act' : Host.Outcome State Fault Refusal} (h : act' = mapNext (State.withAcc x) act) :
    unlessBusy (s.withAcc x) act' = mapNext (State.withAcc x) (unlessBusy s act) := by
  rw [unlessBusy, unlessBusy, apply_ite (mapNext (State.withAcc x)), ← h, raiseCmdError_withAcc]
  rfl

theorem execFrameHdr_withAcc : execFrameHdr (s.withAcc x) = mapNext (State.withAcc x) (execFrameHdr s) := by
  have hp : headerPayload (s.withAcc x) = headerPayload s := rfl
  rw [execFrameHdr, execFrameHdr, hp]
  refine unlessBusy_withAcc ?_
  cases headerPayload s <;> rfl

theorem execFrameData_withAcc : execFrameData (s.withAcc x) = mapNext (State.withAcc x) (execFrameData s) := by
  have hp : dataPayload (s.withAcc x) (s.withAcc x).fbIdx.toNat = dataPayload s s.fbIdx.toNat := rfl
  rw [execFrameData, execFrameData, hp, raiseCmdError_withAcc, raiseCmdError_withAcc]
  refine unlessBusy_withAcc ?_
  rw [apply_ite (mapNext (State.withAcc x)), apply_ite (mapNext (State.withAcc x))]
  refine if_congr Iff.rfl rfl (if_congr Iff.rfl rfl ?_)
  cases dataPayload s s.fbIdx.toNat <;> rfl

theorem execFrameEnd_withAcc : execFrameEnd (s.withAcc x) = mapNext (State.withAcc x) (execFrameEnd s) := by
  rw [execFrameEnd, execFrameEnd, storeFrame_withAcc]
  exact unlessBusy_withAcc rfl

theorem execFrameCheck_withAcc : execFrameCheck (s.withAcc x) = mapNext (State.withAcc x) (execFrameCheck s) := by
  have hf : frameBytes (s.withAcc x) = frameBytes s := rfl
  rw [execFrameCheck, execFrameCheck, hf]
  refine unlessBusy_withAcc ?_
  cases frameBytes s <;> rfl

theorem execStart_withAcc : execStart (s.withAcc x) = mapNext (State.withAcc x) (execStart s) := by
  rw [execStart, execStart, raiseCmdError_withAcc]
  refine unlessBusy_withAcc ?_
  rw [apply_ite (mapNext (State.withAcc x))]
  rfl

/-- No command but CRC_INIT and CRC_BYTE depends on ACC. -/
theorem exec_withAcc {i : Instr} (hinit : i ≠ .crcInit) (hbyte : ∀ b, i ≠ .crcByte b) :
    exec i (s.withAcc x) = mapNext (State.withAcc x) (exec i s) := by
  cases i with
  | nop => rfl
  | crcInit => exact absurd rfl hinit
  | crcByte b => exact absurd rfl (hbyte b)
  | frameHdr => exact execFrameHdr_withAcc
  | frameData => exact execFrameData_withAcc
  | frameEnd => exact execFrameEnd_withAcc
  | frameCheck => exact execFrameCheck_withAcc
  | start => exact execStart_withAcc
  | clear => exact unlessBusy_withAcc rfl

theorem writeCmd_withAcc {w : Word} (hinit : w ≠ encode .crcInit) (hbyte : ∀ b, w ≠ encode (.crcByte b)) :
    writeCmd w (s.withAcc x) = mapNext (State.withAcc x) (writeCmd w s) := by
  unfold writeCmd
  cases hd : decode w with
  | error e => exact congrArg _ (raiseCmdError_withAcc _)
  | ok i =>
    obtain rfl := decode_eq_ok_iff.1 hd
    exact exec_withAcc (fun h => hinit (congrArg encode h)) fun b h => hbyte b (congrArg encode h)

/-- No host write but that of a CRC command depends on ACC. -/
theorem hostWrite_withAcc {a w : Word} (hinit : a = 0#32 → w ≠ encode .crcInit)
    (hbyte : a = 0#32 → ∀ b, w ≠ encode (.crcByte b)) :
    hostWrite a w (s.withAcc x) = mapNext (State.withAcc x) (hostWrite a w s) := by
  unfold hostWrite
  cases hr : regAt a.toNat with
  | some r =>
    cases r with
    | cmd =>
      have ha : a = 0#32 := BitVec.eq_of_toNat_eq (regAt_cmd hr)
      exact writeCmd_withAcc (hinit ha) (hbyte ha)
    | len | nameLen | fbIdx => exact unlessBusy_withAcc rfl
    | _ => rfl
  | none =>
    simp only
    rw [apply_ite (mapNext (State.withAcc x))]
    exact if_congr Iff.rfl (unlessBusy_withAcc rfl) rfl

theorem foreignTakes_withAcc : foreignTakes (s.withAcc x) = mapNext (State.withAcc x) (foreignTakes s) := by
  rw [foreignTakes, foreignTakes, apply_ite (mapNext (State.withAcc x))]
  rfl

theorem foreignWrites_withAcc (bs : List Byte) :
    foreignWrites bs (s.withAcc x) = mapNext (State.withAcc x) (foreignWrites bs s) := by
  rw [foreignWrites, foreignWrites, apply_ite (mapNext (State.withAcc x))]
  rfl

end Acc

/-- A change of ACC alone is a change of the host's side. -/
theorem withAcc_eq_withHost {s t : State} (x : Half) (h : SameHostSide s t) :
    t.withAcc x = t.withHost ⟨s.err, x, s.chkRes, s.fbIdx, s.mem⟩ := by
  rw [← h.err, ← h.chkRes, ← h.fbIdx, ← h.mem]
  rfl

theorem engineTurn_withAcc {s t : State} {ans : ChAnswer} (x : Half) (h : engineTurn ans s = .next t) :
    engineTurn ans (s.withAcc x) = .next (t.withAcc x) := by
  rw [withAcc_eq_withHost x (engineTurn_sameHostSide h), withAcc_eq_withHost x (.refl s),
    engineTurn_withHost (fun _ _ => rfl), h]
  rfl

theorem tickTurn_withAcc (s : State) (x : Half) : tickTurn (s.withAcc x) = (tickTurn s).withAcc x := by
  rw [withAcc_eq_withHost x (tickTurn_sameHostSide s), withAcc_eq_withHost x (.refl s), tickTurn_withHost]

/-- Settles O10: ACC stays by who writes it, and each agent's step commutes with a change of ACC. -/
theorem accIsIndependent : Obligations.AccIsIndependent := by
  unfold Obligations.AccIsIndependent
  intro s t e rest x hs hr hp hread hinit hbyte h
  refine ⟨?_, ?_⟩
  · obtain ⟨-, -, hacc⟩ := whoWritesCheckResultAccAndCap s t e rest hs h
    by_contra hne
    rcases hacc hne with he | he | he | ⟨b, he⟩
    · exact hr he
    · exact hp he
    · exact hinit he
    · exact hbyte b he
  · have hx : step (s.withAcc x) = runEvent e ((s.withScript rest).withAcc x) := step_cons (s := s.withAcc x) hs
    rw [step_cons hs] at h
    refine hx.trans ?_
    cases e with
    | hostRead a =>
      obtain rfl : hostRead a (s.withScript rest) = t := by simpa [runEvent] using h
      exact congrArg _ (hostRead_withAcc fun ha => hread (ha ▸ rfl))
    | hostWrite a w =>
      refine (hostWrite_withAcc (fun ha hw => hinit (ha ▸ hw ▸ rfl)) fun ha b hw => hbyte b (ha ▸ hw ▸ rfl)).trans ?_
      exact congrArg (mapNext _) h
    | engine ans => exact engineTurn_withAcc x h
    | tick =>
      obtain rfl : tickTurn (s.withScript rest) = t := by simpa [runEvent] using h
      exact congrArg _ (tickTurn_withAcc _ x)
    | peer b =>
      obtain rfl : peerSends b (s.withScript rest) = t := by simpa [runEvent] using h
      rfl
    | foreignTake => exact foreignTakes_withAcc.trans (congrArg (mapNext _) h)
    | foreignWrite bs => exact (foreignWrites_withAcc bs).trans (congrArg (mapNext _) h)
    | reset => exact absurd rfl hr
    | powerOn => exact absurd rfl hp

end Sys2Proof.Machine
end

section
/-! PROOF. What FRAME_CHECK detects (41_framing.md R149, R150): a built frame is valid, and a frame with one wrong bit of its payload or CRC is not. -/

namespace Sys2Proof.Machine

open Sys2Proof.Config

/-! ## The checks of a built frame -/

theorem getD_of_getElem? {f : List Byte} {i : Nat} {b : Byte} (h : f[i]? = some b) : f.getD i 0#8 = b := by
  rw [List.getD_eq_getElem?_getD, h, Option.getD_some]

/-- The last two bytes of a frame are its payload's CRC. -/
theorem frame_crc (num : Byte) {p : List Byte} (h : p.length = 128) :
    (frame num p).getD 131 0#8 ++ (frame num p).getD 132 0#8 = crc16 p := by
  rw [getD_of_getElem? (frame_crcHigh num h), getD_of_getElem? (frame_crcLow num h)]
  exact BitVec.extractLsb'_append_extractLsb'

theorem frame_header (num : Byte) (p : List Byte) :
    (frame num p).getD 0 0#8 = sohByte ∧ (frame num p).getD 1 0#8 = num ∧
      (frame num p).getD 2 0#8 = 255#8 - num := ⟨rfl, rfl, rfl⟩

/-- CHKRES after a check of a built frame: every check but SEQ_OK holds (R150). -/
theorem checkFrame_frame (num : Byte) {p : List Byte} (h : p.length = 128) (fb : Word) :
    checkFrame (frame num p) fb = chkResWord (crc16 p) num (decide (num.toNat = fb.toNat % 256)) true true true := by
  obtain ⟨h0, h1, h2⟩ := frame_header num p
  simp only [checkFrame, h0, h1, h2, frame_crc num h, blockSize, frame_payload num h, decide_true]

theorem chkResWord_allOk (c : Half) (b : Byte) (sq : Bool) :
    (chkResWord c b sq true true true).extractLsb' 0 4 = 0xF#4 := by
  refine BitVec.eq_of_getLsbD_eq fun i hi => ?_
  have hcases : i = 0 ∨ i = 1 ∨ i = 2 ∨ i = 3 := by omega
  rw [BitVec.getLsbD_extractLsb', Nat.zero_add]
  rcases hcases with rfl | rfl | rfl | rfl <;> simp

/-- Settles O18, by the CHKRES word of a built frame. -/
theorem builtFrameIsValid : Obligations.BuiltFrameIsValid := by
  unfold Obligations.BuiltFrameIsValid
  intro s num p hb hp hm
  refine ⟨_, execFrameCheck_of_ok hb (frameBytes_of_holds (frame_length num hp) hm), ?_⟩
  simp only [checkFrame_frame num hp, chkResWord_allOk, chkResWord_blkNum, chkResWord_crcCalc, and_self]

/-! ## The update loses nothing (R120) -/

/-- The polynomial is odd, so the bit a round shifts out comes back in bit 0. -/
theorem feedback_bit0 (top : Bool) : (feedback top).getLsbD 0 = top := by cases top <;> decide

theorem crcRound_bit0 (a : Half) : (crcRound a).getLsbD 0 = a.getLsbD 15 := by
  rw [crcRound_eq, BitVec.getLsbD_xor, feedback_bit0, BitVec.getLsbD_shiftLeft]
  simp

theorem shiftLeft_one_bit_succ (a : Half) {i : Nat} (h : i < 15) : (a <<< 1).getLsbD (i + 1) = a.getLsbD i := by
  simp only [BitVec.getLsbD_shiftLeft, Nat.add_sub_cancel, Nat.add_lt_add_iff_right.2 h, decide_true,
    Nat.not_lt.2 (Nat.le_add_left 1 i), decide_false, Bool.not_false, Bool.true_and]

theorem crcRound_eq_zero {a : Half} (h : crcRound a = 0x0000#16) : a = 0x0000#16 := by
  have htop : a.getLsbD 15 = false := by rw [← crcRound_bit0, h]; rfl
  have hnone : feedback false = 0x0000#16 := rfl
  have hshift : a <<< 1 = 0x0000#16 := by rwa [crcRound_eq, htop, hnone, BitVec.xor_zero] at h
  refine BitVec.eq_of_getLsbD_eq fun i hi => ?_
  rw [BitVec.getLsbD_zero]
  rcases Nat.lt_or_ge i 15 with hlt | hge
  · rw [← shiftLeft_one_bit_succ a hlt, hshift, BitVec.getLsbD_zero]
  · obtain rfl : i = 15 := by omega
    exact htop

theorem crcRounds_injective (n : Nat) : Function.Injective (crcRounds n) := by
  induction n with
  | zero => exact fun _ _ h => h
  | succ n ih =>
    intro a b h
    have hz : crcRound (a ^^^ b) = 0x0000#16 := by rw [crcRound_xor, ih h, BitVec.xor_self]
    exact BitVec.xor_eq_zero_iff.1 (crcRound_eq_zero hz)

theorem highOctet_injective {b b' : Byte} (h : b.setWidth 16 <<< 8 = b'.setWidth 16 <<< 8) : b = b' := by
  have hn := congrArg BitVec.toNat h
  simp only [BitVec.toNat_shiftLeft, BitVec.toNat_setWidth, Nat.shiftLeft_eq] at hn
  exact BitVec.eq_of_toNat_eq (by omega)

/-- The update keeps accumulators apart. -/
theorem crcUpdate_acc_injective {a a' : Half} {b : Byte} (h : crcUpdate a b = crcUpdate a' b) : a = a' :=
  (BitVec.xor_left_inj _).1 (crcRounds_injective 8 h)

/-- The update keeps bytes apart. -/
theorem crcUpdate_byte_injective {a : Half} {b b' : Byte} (h : crcUpdate a b = crcUpdate a b') : b = b' :=
  highOctet_injective ((BitVec.xor_right_inj _).1 (crcRounds_injective 8 h))

theorem foldl_crcUpdate_injective {a a' : Half} {bs : List Byte}
    (h : bs.foldl crcUpdate a = bs.foldl crcUpdate a') : a = a' := by
  induction bs generalizing a a' with
  | nil => exact h
  | cons b bs ih => exact crcUpdate_acc_injective (ih h)

/-- One changed byte changes the CRC: the accumulators differ from there on. -/
theorem foldl_crcUpdate_modify_ne {g : Byte → Byte} (hg : ∀ b, g b ≠ b) {p : List Byte} {k : Nat} (hk : k < p.length)
    (a : Half) : (p.modify k g).foldl crcUpdate a ≠ p.foldl crcUpdate a := by
  induction p generalizing k a with
  | nil => simp at hk
  | cons b bs ih =>
    cases k with
    | zero =>
      rw [List.modify_zero_cons]
      exact fun h => hg b (crcUpdate_byte_injective (foldl_crcUpdate_injective h))
    | succ k =>
      rw [List.modify_succ_cons]
      exact ih (by simpa using hk) _

/-! ## One wrong bit (R150) -/

theorem xor_bit_ne {j : Nat} (hj : j < 8) (b : Byte) : b ^^^ (1#8 <<< j) ≠ b := by
  have hbit : ∀ j < 8, 1#8 <<< j ≠ 0#8 := by decide
  intro h
  refine hbit j hj ((BitVec.xor_right_inj b).1 ?_)
  rw [h, BitVec.xor_zero]

theorem flipBit_getD_same {f : List Byte} {i : Nat} (hi : i < f.length) (j : Nat) :
    (flipBit f i j).getD i 0#8 = f.getD i 0#8 ^^^ (1#8 <<< j) := by
  rw [List.getD_eq_getElem?_getD, flipBit, List.getElem?_modify_eq, ← getElem?_eq_some_getD hi]
  rfl

theorem flipBit_getD_other (f : List Byte) {i k : Nat} (h : i ≠ k) (j : Nat) :
    (flipBit f i j).getD k 0#8 = f.getD k 0#8 := by
  rw [List.getD_eq_getElem?_getD, flipBit, List.getElem?_modify_ne _ _ h, ← List.getD_eq_getElem?_getD]

/-- The payload of a frame with one changed byte behind the header: the change is outside it or at its place in it. -/
theorem flipBit_payload (num : Byte) {p : List Byte} (hp : p.length = 128) {i : Nat} (hi : 3 ≤ i) (j : Nat) :
    ((flipBit (frame num p) i j).drop 3).take 128 = flipBit p (i - 3) j := by
  rw [flipBit, List.drop_modify_of_ge _ _ _ _ hi, List.take_modify, frame_payload num hp, flipBit]

theorem flipBit_of_length_le {f : List Byte} {i : Nat} (h : f.length ≤ i) (j : Nat) : flipBit f i j = f := by
  refine List.ext_getElem? fun k => ?_
  rw [flipBit, List.getElem?_modify]
  split
  · rw [List.getElem?_eq_none (by omega)]
    rfl
  · simp

/-- The CRC check of a frame with one wrong bit behind the header fails. -/
theorem flipBit_crc_ne (num : Byte) {p : List Byte} (hp : p.length = 128) {i j : Nat} (hi : 3 ≤ i) (hi' : i ≤ 132)
    (hj : j < 8) : (flipBit (frame num p) i j).getD 131 0#8 ++ (flipBit (frame num p) i j).getD 132 0#8 ≠
      crc16 (((flipBit (frame num p) i j).drop 3).take 128) := by
  have hlen := frame_length num hp
  rw [flipBit_payload num hp hi]
  rcases Nat.lt_or_ge i 131 with hpay | hcrc
  · rw [flipBit_getD_other _ (by omega), flipBit_getD_other _ (by omega), frame_crc num hp]
    exact (foldl_crcUpdate_modify_ne (xor_bit_ne hj) (by omega) _).symm
  · rw [flipBit_of_length_le (f := p) (by omega), ← frame_crc num hp]
    intro h
    have hn := congrArg BitVec.toNat h
    rw [append_toNat, append_toNat] at hn
    have hcases : i = 131 ∨ i = 132 := by omega
    rcases hcases with rfl | rfl
    · rw [flipBit_getD_same (by omega), flipBit_getD_other _ (by omega)] at hn
      exact xor_bit_ne hj ((frame num p).getD 131 0#8) (BitVec.eq_of_toNat_eq (by omega))
    · rw [flipBit_getD_same (by omega), flipBit_getD_other _ (by omega)] at hn
      exact xor_bit_ne hj ((frame num p).getD 132 0#8) (BitVec.eq_of_toNat_eq (by omega))

theorem checkFrame_crcOk (f : List Byte) (fb : Word) : (checkFrame f fb).getLsbD 3 =
    decide (f.getD 131 0#8 ++ f.getD 132 0#8 = crc16 ((f.drop 3).take 128)) := chkResWord_crcOk ..

/-- Settles O19: CRC_OK fails, and VALID needs it. -/
theorem singleBitErrorIsDetected : Obligations.SingleBitErrorIsDetected := by
  unfold Obligations.SingleBitErrorIsDetected
  intro num p fb i j hp hi hi' hj
  have hcrc : (checkFrame (flipBit (frame num p) i j) fb).getLsbD 3 = false := by
    rw [checkFrame_crcOk]
    exact decide_eq_false (flipBit_crc_ne num hp hi hi' hj)
  obtain ⟨-, hvalid⟩ := checkFrame_chkResOk (flipBit (frame num p) i j) fb
  exact ⟨hcrc, by rw [hvalid, hcrc, Bool.and_false]⟩

end Sys2Proof.Machine
end

section
/-! PROOF. Waits, sends and progress (42_sender.md sections 4 and 5): a tick before the timeout, the end of a silent wait, a send of an unwritten byte, and the counters of a session. -/

namespace Sys2Proof.Machine

open Sys2Proof.Config

/-! ## Ticks in a wait (R212) -/

theorem advanceElapsed_toNat {s : State} {n : Nat} (hn : n < 2 ^ 32) (hlt : s.elapsed.toNat + 1 ≤ n) :
    (advanceElapsed s).elapsed.toNat = s.elapsed.toNat + 1 :=
  BitVec.toNat_add_of_lt (by simp only [BitVec.toNat_ofNat]; omega)

theorem tickTurn_counts {s : State} {b : Byte} {cls : WaitClass} (hr : roleOf s.state = .wait b cls)
    (hlt : s.elapsed.toNat + 1 < cls.ticks s.params) (hmax : cls.ticks s.params < 2 ^ 32) :
    tickTurn s = advanceElapsed s := by
  have hel := advanceElapsed_toNat hmax hlt.le
  have hnot : ¬ cls.ticks s.params ≤ (advanceElapsed s).elapsed.toNat := by omega
  simp only [tickTurn, hr, if_neg hnot]

/-- Settles O41: the tick is counted, and ELAPSED does not wrap. -/
theorem tickBeforeTimeoutOnlyCounts : Obligations.TickBeforeTimeoutOnlyCounts := by
  unfold Obligations.TickBeforeTimeoutOnlyCounts
  exact fun s b cls hr hlt hmax => ⟨_, tickTurn_counts hr hlt hmax, rfl, advanceElapsed_toNat hmax hlt.le⟩

/-! ## A silent peer (R212, R282) -/

/-- The REASON a miss of a wait records (R242 to R244). -/
def missReason : SessionState → FailReason
  | .awaitInitialReady => .noCrcRequest
  | .awaitDataAck => .blockNotAcked
  | _ => .timeout

theorem onMiss_of_wait {s : State} {b : Byte} {cls : WaitClass} (hr : roleOf s.state = .wait b cls) :
    ∃ f, onMiss s = sessionFail (missReason s.state) { s with failBlk := f } := by
  rcases state_of_wait hr with h | h | h
  · exact ⟨s.failBlk, by rw [onMiss_awaitInitialReady h, h]; rfl⟩
  · exact ⟨s.blkIdx, by rw [onMiss_awaitDataAck h, h]; rfl⟩
  · have hreason : missReason s.state = .timeout := by
      simp only [List.mem_cons, List.not_mem_nil, or_false] at h
      rcases h with (h | h | h) | (h | h) <;> rw [h] <;> rfl
    exact ⟨s.failBlk, by rw [onMiss_timeout h, hreason]⟩

/-- The cancel write's answer ends the session in FAILED (R192). -/
theorem engineTurn_failCancel {s : State} {ans : ChAnswer} (h : s.state = .failCancel) (ha : ans ≠ .silent) :
    engineTurn ans s =
      .next { s with wire := s.wire ++ [.wrote [0x18#8, 0x18#8] (ans == .ok)], state := .failed } := by
  obtain ⟨hok, herr⟩ := cancelPairErrorIsSwallowed s h
  cases ans with
  | ok => exact hok
  | silent => exact absurd rfl ha
  | err => exact herr

theorem step_tick {s : State} {rest : List Event} (hs : s.script = .tick :: rest) :
    step s = .next (tickTurn (s.withScript rest)) := step_cons hs

theorem step_engine {s : State} {ans : ChAnswer} {rest : List Event} (hs : s.script = .engine ans :: rest) :
    step s = engineTurn ans (s.withScript rest) := step_cons hs

theorem stepMany_succ {s t : State} (h : step s = .next t) (n : Nat) : stepMany (n + 1) s = stepMany n t := by
  rw [stepMany, h]

/-- The next step is a tick that the wait counts. -/
theorem step_tick_counts {s : State} {b : Byte} {cls : WaitClass} {es : List Event}
    (hr : roleOf s.state = .wait b cls) (hlt : s.elapsed.toNat + 1 < cls.ticks s.params)
    (hmax : cls.ticks s.params < 2 ^ 32) (hs : s.script = .tick :: es) :
    step s = .next (advanceElapsed (s.withScript es)) :=
  (step_tick hs).trans (congrArg _ (tickTurn_counts (s := s.withScript es) hr hlt hmax))

/-- `n` ticks alone, which do not reach the timeout, advance ELAPSED by `n` and change nothing else. -/
theorem stepMany_ticks {s : State} {b : Byte} {cls : WaitClass} {m : Nat} {es : List Event}
    (hr : roleOf s.state = .wait b cls) (hmax : cls.ticks s.params < 2 ^ 32) (n : Nat)
    (hs : s.script = List.replicate (n + m) .tick ++ es) (hlt : s.elapsed.toNat + n < cls.ticks s.params) :
    ∃ x : Word, stepMany n s = .next { s with elapsed := x, script := List.replicate m .tick ++ es } ∧
      x.toNat = s.elapsed.toNat + n := by
  induction n generalizing s with
  | zero =>
    rw [Nat.zero_add] at hs
    exact ⟨s.elapsed, by rw [← hs]; rfl, rfl⟩
  | succ n ih =>
    rw [Nat.succ_add, List.replicate_succ, List.cons_append] at hs
    have hstep := step_tick_counts hr (by omega) hmax hs
    have hel : (s.elapsed + 1#32).toNat = s.elapsed.toNat + 1 := advanceElapsed_toNat (s := s) hmax (by omega)
    obtain ⟨x, hx, hxn⟩ := ih (s := advanceElapsed (s.withScript (List.replicate (n + m) Event.tick ++ es)))
      hr hmax rfl (show (s.elapsed + 1#32).toNat + n < cls.ticks s.params by omega)
    exact ⟨x, (stepMany_succ hstep n).trans hx, hxn.trans (show (s.elapsed + 1#32).toNat + n = _ by omega)⟩

/-- The last tick of a wait fails the session. -/
theorem step_timeout {s : State} {b : Byte} {cls : WaitClass} {es : List Event} (hr : roleOf s.state = .wait b cls)
    (hmax : cls.ticks s.params < 2 ^ 32) (hlast : s.elapsed.toNat + 1 = cls.ticks s.params)
    (hs : s.script = .tick :: es) :
    ∃ u, step s = .next u ∧ u.state = .failCancel ∧ u.script = es ∧ u.wire = s.wire ∧
      u.elapsed.toNat = cls.ticks s.params ∧ u.reason = missReason s.state := by
  obtain ⟨f, hmiss⟩ := onMiss_of_wait (s := advanceElapsed (s.withScript es)) hr
  have hstep := step_tick hs
  rw [tickTurn_timeout (s := s.withScript es) hr (show s.elapsed.toNat + 1 < _ by omega) hlast.ge hmiss] at hstep
  exact ⟨_, hstep, rfl, rfl, rfl, (advanceElapsed_toNat (s := s) hmax hlast.le).trans hlast, rfl⟩

/-- Settles O42: the ticks before the timeout, then the last tick and the cancel write. -/
theorem silentPeerEndsWait : Obligations.SilentPeerEndsWait := by
  unfold Obligations.SilentPeerEndsWait
  intro s b cls ans rest h hr ha hs
  obtain ⟨-, hrun⟩ := h.elapsed_succ hr
  have hmax : cls.ticks s.params < 2 ^ 32 := by
    obtain ⟨-, -, hinit, -, hack⟩ := (params_wf_iff _).1 h.params_wf
    exact lt_of_le_of_lt (ticks_le _ cls) (max_lt hinit hack)
  refine ⟨fun n hn => ?_, ?_⟩
  · obtain ⟨x, hx, -⟩ := stepMany_ticks (m := cls.ticks s.params - s.elapsed.toNat - n) hr hmax n
      (by rw [hs]; congr 2; omega) (by omega)
    exact ⟨_, hx, rfl⟩
  · obtain ⟨x, hx, hxn⟩ := stepMany_ticks (m := 1) hr hmax (cls.ticks s.params - s.elapsed.toNat - 1)
      (by rw [hs]; congr 2; omega) (by omega)
    obtain ⟨u, hu, hst, hscript, hwire, hel, hreason⟩ := step_timeout (es := .engine ans :: rest)
      (s := { s with elapsed := x, script := _ }) hr hmax (show x.toNat + 1 = cls.ticks s.params by omega) rfl
    have hcancel := (step_engine hscript).trans (engineTurn_failCancel (s := u.withScript rest) hst ha)
    have hsum : cls.ticks s.params - s.elapsed.toNat + 1 = cls.ticks s.params - s.elapsed.toNat - 1 + 2 := by omega
    have hrun := ((stepMany_add 2 hx).trans (stepMany_succ hu 1)).trans (stepMany_succ hcancel 0)
    rw [hsum]
    refine ⟨_, hrun, rfl, rfl, ?_, hel, hreason⟩
    exact congrArg (· ++ [ChTxn.wrote [0x18#8, 0x18#8] (ans == .ok)]) hwire

/-! ## A send of an unwritten byte (R43) -/

theorem engineTurn_send_fault {s : State} {a : Nat} {ans : ChAnswer} (hr : roleOf s.state = .send)
    (hb : bytesToSend s = .error a) (ha : ans ≠ .silent) : engineTurn ans s = .fault (.unwrittenByte a) := by
  cases ans with
  | silent => exact absurd rfl ha
  | ok | err => simp only [engineTurn, hr, sendTurn, hb]

/-- Settles O51: the header's name bytes, then the data block's slice. -/
theorem sendFaultsOnUnwrittenByte : Obligations.SendFaultsOnUnwrittenByte := by
  unfold Obligations.SendFaultsOnUnwrittenByte
  refine fun s => ⟨fun h hm ans ha => ?_, fun h hm ans ha => ?_⟩
  · obtain ⟨a, hp, hn⟩ := headerPayload_of_lacks hm
    have hb : bytesToSend s = .error a := by simp only [bytesToSend, h, headerFrame, hp]
    exact ⟨a, engineTurn_send_fault (by rw [h]; rfl) hb ha, hn⟩
  · obtain ⟨a, hp, hn⟩ := dataPayload_of_lacks hm
    have hb : bytesToSend s = .error a := by simp only [bytesToSend, h, dataFrame, hp]
    exact ⟨a, engineTurn_send_fault (by rw [h]; rfl) hb ha, hn⟩

/-! ## The counters at the end of a session (R208) -/

/-- A step of a session is a reset, or a move after the host, the peer or nobody has touched what no session reads (R81, R246). -/
theorem step_of_busy {s t : State} (hb : s.busy = true) (h : step s = .next t) :
    t.state = .idle ∨ ∃ err acc chan reads draws script, Move { s with err, acc, chan, reads, draws, script } t := by
  obtain ⟨e, rest, hs, -⟩ := step_next h
  rcases step_agent_cases hs h with ⟨-, rfl⟩ | ⟨-, rfl⟩ | ⟨a, w, -, hw⟩ | ⟨-, hm⟩ | ⟨-, -, c, r, d, rfl⟩
  · exact .inl rfl
  · exact .inl rfl
  · rw [hostWrite_of_busy (s := s.withScript rest) hb hw]
    exact .inr ⟨_, _, _, _, _, _, .quiet⟩
  · exact .inr ⟨_, _, _, _, _, _, hm⟩
  · exact .inr ⟨_, _, _, _, _, _, .quiet⟩

/-- SUCCEEDED is reached by the last ACK alone (R191). -/
theorem Move.of_succeeded {s t : State} (h : Move s t) (hb : s.busy = true) (ht : t.state = .succeeded) :
    s.state = .awaitFinalAck ∧ t.acked = s.acked := by
  have hne : s.state ≠ .succeeded := fun hc => by simp [State.busy, hc, SessionState.busy] at hb
  cases h with
  | gotFinalAck rest hs => exact ⟨hs, rfl⟩
  | quiet => exact absurd ht hne
  | counted hr hlt => exact absurd ht hne
  | gotHdrC rest hs =>
    rw [enterState_state] at ht
    split at ht <;> cases ht
  | failed hf => cases hf.state.symm.trans ht
  | _ => cases ht

/-- Once all blocks are acknowledged so are all bytes (R207, R208). -/
theorem Inv.acked_eq_len {s : State} (h : Inv s) (hb : s.busy = true) (ha : afterData s.state) : s.acked = s.len := by
  obtain ⟨hprog, -⟩ := h.after_data ha
  obtain ⟨-, htot⟩ := h.inputs_locked hb
  have hack := h.acked_count hb
  rw [hprog, htot, blockSize, Nat.min_eq_right (le_totalBlocks_mul _)] at hack
  exact BitVec.eq_of_toNat_eq hack

/-- Settles O54, by the invariant before the last ACK and after the step. -/
theorem terminalCounters : Obligations.TerminalCounters := by
  unfold Obligations.TerminalCounters
  intro s t h hstep hb
  have ht := everyStepKeepsTheInvariant s t h hstep
  refine ⟨fun hst => ?_, fun _ hreason => ?_⟩
  · rcases step_of_busy hb hstep with hidle | ⟨err, acc, chan, reads, draws, script, hm⟩
    · cases hidle.symm.trans hst
    · obtain ⟨hs, hack⟩ := hm.of_succeeded hb hst
      have hh := hm.sameHostSide
      refine ⟨(ht.after_data (by simp [afterData, hst])).1, ?_, ?_⟩
      · rw [hh.totBlk, hh.len]
        exact (h.inputs_locked hb).2
      · rw [hack, hh.len]
        exact h.acked_eq_len hb (by simp [afterData, show s.state = .awaitFinalAck from hs])
  · have hfb := ht.fail_block
    rw [if_pos hreason] at hfb
    exact hfb.2

/-! ## PROGRESS (R206, R207) -/

/-- A move emits a PROGRESS event exactly when it counts a data block (R186, R206). -/
theorem Move.progress {s t : State} (h : Move s t) : t.progress = s.progress ∨
    (s.state = .awaitDataAck ∧ t.progress = s.progress ++ [⟨0, nameReference s, s.len, ackedBytes s⟩] ∧
      t.acked = ackedBytes s ∧ t.progCnt = s.progCnt + 1#32) := by
  cases h with
  | gotLastAck rest hs _ => exact .inr ⟨hs, rfl, rfl, rfl⟩
  | gotDataAck rest hs _ => exact .inr ⟨hs, rfl, rfl, rfl⟩
  | failed hf => exact .inl hf.counters.progress
  | _ => exact .inl rfl

theorem hostWrite_progress {a w : Word} {s t : State} (h : hostWrite a w s = .next t) : t.progress = s.progress := by
  rcases hostWrite_effects h with ⟨c, rfl, -⟩ | ⟨-, -, x, rfl⟩ | ⟨-, ⟨l, n, f, m, rfl⟩ | ⟨-, -, x, rfl⟩ |
    ⟨-, -, rfl⟩ | ⟨-, -, rfl⟩⟩ <;> rfl

/-- What the ACK of data block BLKIDX adds: the block's own bytes, of which there is one at least (R207). -/
theorem Inv.acked_lt {s : State} (h : Inv s) (hs : s.state = .awaitDataAck) :
    s.acked.toNat < (ackedBytes s).toNat ∧ (ackedBytes s).toNat ≤ s.len.toNat := by
  have hb : s.busy = true := by rw [State.busy, hs]; rfl
  obtain ⟨hge, hle, hprog⟩ := h.in_data (.inr hs)
  obtain ⟨-, htot⟩ := h.inputs_locked hb
  have hceil := totalBlocks_mul_lt s.len.toNat
  rw [h.acked_count hb, ackedBytes_toNat, blockSize]
  omega

/-- Settles O55: only the ACK of a data block emits an event, and the invariant gives its numbers. -/
theorem progressIsStrictlyIncreasing : Obligations.ProgressIsStrictlyIncreasing := by
  unfold Obligations.ProgressIsStrictlyIncreasing
  intro s t h hstep hne
  obtain ⟨e, rest, hscript, -⟩ := step_next hstep
  rcases step_agent_cases hscript hstep with ⟨-, rfl⟩ | ⟨-, rfl⟩ | ⟨a, w, -, hw⟩ | ⟨-, hm⟩ | ⟨-, -, c, r, d, rfl⟩
  · exact absurd rfl hne
  · exact absurd rfl hne
  · exact absurd (hostWrite_progress hw) hne
  · obtain ⟨hs, hp, hack, hprog⟩ := hm.progress.resolve_left hne
    have hs : s.state = .awaitDataAck := hs
    have hack : t.acked = ackedBytes s := hack
    have hprog : t.progCnt = s.progCnt + 1#32 := hprog
    obtain ⟨-, -, hblk⟩ := h.in_data (.inr hs)
    have hcnt := (h.counters_succ (.inr hs)).2
    obtain ⟨hlt, hle⟩ := h.acked_lt hs
    rw [hack, hprog, hcnt]
    exact ⟨hs, hp, hblk.symm, ackedBytes_toNat s, hlt, by omega, hle⟩
  · exact absurd rfl hne

end Sys2Proof.Machine
end

section
/-! PROOF. The transcript of a session (42_sender.md section 5, R217): it follows the position, a session that succeeds has exchanged the whole of it, and only a failure writes the cancel pair. -/

namespace Sys2Proof.Machine

open Sys2Proof.Config

/-! ## The transcript by position -/

theorem blocksTxns_succ (s : State) (k : Nat) : blocksTxns s (k + 1) = blocksTxns s k ++ blockTxns s (k + 1) := by
  simp [blocksTxns, List.range_succ]

/-- The frame of the block in SEND_DATA is the one of its number (R185, R47). -/
theorem Inv.dataFrame_seq {s : State} (h : Inv s) :
    dataFrame s s.seq s.blkIdx.toNat = dataFrame s (BitVec.ofNat 8 (s.blkIdx.toNat % 256)) s.blkIdx.toNat := by
  rw [← h.seq_wraps, BitVec.ofNat_toNat, BitVec.setWidth_eq]

section Position

variable {s : State} {rest : List Byte} {bs : List Byte}

theorem txnsSoFar_sentHeader (hs : s.state = .sendHeader) (hb : headerFrame s = .ok bs) :
    txnsSoFar (enterWait .awaitHdrAck (recordTxn (.wrote bs true) s)) = txnsSoFar s ++ [.wrote bs true] := by
  have hsent : sentTxn (headerFrame s) = .wrote bs true := by rw [hb]; rfl
  rw [← hsent]
  simp only [txnsSoFar, hs, enterWait_state]
  rfl

theorem txnsSoFar_sentData (h : Inv s) (hs : s.state = .sendData)
    (hb : dataFrame s s.seq s.blkIdx.toNat = .ok bs) :
    txnsSoFar (enterWait .awaitDataAck (recordTxn (.wrote bs true) s)) = txnsSoFar s ++ [.wrote bs true] := by
  have hsent : sentTxn (dataFrame s (BitVec.ofNat 8 (s.blkIdx.toNat % 256)) s.blkIdx.toNat) = .wrote bs true := by
    rw [← h.dataFrame_seq, hb]
    rfl
  rw [← hsent]
  simp only [txnsSoFar, hs, enterWait_state]
  rfl

theorem txnsSoFar_gotHdrC (h : Inv s) (hs : s.state = .awaitHdrC) :
    txnsSoFar (enterState (if s.totBlk = 0#32 then .sendEot else .sendData) (afterRead crcReq rest s)) =
      txnsSoFar s ++ [.got crcReq] := by
  obtain ⟨hblk, -⟩ := h.before_data (by simp [beforeData, hs])
  have hopen : (openingTxns s).take 3 ++ [.got crcReq] = openingTxns s := rfl
  split
  · rename_i h0
    have hnone : blocksTxns s s.totBlk.toNat = [] := by rw [h0]; rfl
    simp only [txnsSoFar, hs, enterState_state, hopen]
    exact (congrArg (openingTxns s ++ ·) hnone).trans (List.append_nil _)
  · have hnone : blocksTxns s (s.blkIdx.toNat - 1) = [] := by rw [hblk]; rfl
    simp only [txnsSoFar, hs, enterState_state, hopen]
    exact (congrArg (openingTxns s ++ ·) hnone).trans (List.append_nil _)

/-- The ACK of data block BLKIDX completes the block's transactions. -/
theorem txnsSoFar_awaitDataAck (hs : s.state = .awaitDataAck) (hge : 1 ≤ s.blkIdx.toNat) :
    txnsSoFar s ++ [.got ackByte] = openingTxns s ++ blocksTxns s s.blkIdx.toNat := by
  have hblock : (blockTxns s s.blkIdx.toNat).take 1 ++ [.got ackByte] = blockTxns s s.blkIdx.toNat := rfl
  have hsucc := blocksTxns_succ s (s.blkIdx.toNat - 1)
  rw [Nat.sub_add_cancel hge] at hsucc
  simp only [txnsSoFar, hs]
  rw [List.append_assoc, hblock, List.append_assoc, ← hsucc]

theorem txnsSoFar_gotLastAck (h : Inv s) (hs : s.state = .awaitDataAck) (hl : s.blkIdx = s.totBlk) :
    txnsSoFar (enterState .sendEot (countBlock (afterRead ackByte rest s))) = txnsSoFar s ++ [.got ackByte] := by
  obtain ⟨hge, -, -⟩ := h.in_data (.inr hs)
  rw [txnsSoFar_awaitDataAck hs hge, hl]
  rfl

theorem txnsSoFar_gotDataAck (h : Inv s) (hs : s.state = .awaitDataAck) :
    txnsSoFar (nextBlock (countBlock (afterRead ackByte rest s))) = txnsSoFar s ++ [.got ackByte] := by
  obtain ⟨hge, -, -⟩ := h.in_data (.inr hs)
  have hprev : (s.blkIdx + 1#32).toNat - 1 = s.blkIdx.toNat := by
    rw [(h.counters_succ (.inr hs)).1, Nat.add_sub_cancel]
  rw [txnsSoFar_awaitDataAck hs hge, ← hprev]
  rfl

end Position

/-- A move that meets no failure takes the transcript of its position to that of the next one (R217). -/
theorem Move.transcript {s t : State} {before : List ChTxn} (hm : Move s t) (h : Inv s) (hs : s.state ≠ .failCancel)
    (hw : s.wire = before ++ txnsSoFar s) (ht : t.state ≠ .failCancel) : t.wire = before ++ txnsSoFar t := by
  have grow {x : ChTxn} (hx : t.wire = s.wire ++ [x]) (ht : txnsSoFar t = txnsSoFar s ++ [x]) :
      t.wire = before ++ txnsSoFar t := by rw [hx, hw, ht, List.append_assoc]
  cases hm with
  | quiet => exact hw
  | counted _ _ => exact hw
  | sentHeader hst hb => exact grow rfl (txnsSoFar_sentHeader hst hb)
  | sentData hst hb => exact grow rfl (txnsSoFar_sentData h hst hb)
  | sentEot hst => exact grow rfl (by simp only [txnsSoFar, hst, enterWait_state]; rfl)
  | sentFinalHeader hst => exact grow rfl (by simp only [txnsSoFar, hst, enterWait_state, List.append_assoc]; rfl)
  | cancelled ok hst => exact absurd hst hs
  | gotInitialC rest hst => exact grow rfl (by simp only [txnsSoFar, hst, enterState_state]; rfl)
  | gotHdrAck rest hst => exact grow rfl (by simp only [txnsSoFar, hst, enterWait_state]; rfl)
  | gotHdrC rest hst => exact grow rfl (txnsSoFar_gotHdrC h hst)
  | gotLastAck rest hst hl => exact grow rfl (txnsSoFar_gotLastAck h hst hl)
  | gotDataAck rest hst hl => exact grow rfl (txnsSoFar_gotDataAck h hst)
  | gotEotAck rest hst => exact grow rfl (by simp only [txnsSoFar, hst, enterWait_state, List.append_assoc]; rfl)
  | gotFinalC rest hst => exact grow rfl (by simp only [txnsSoFar, hst, enterState_state, List.append_assoc]; rfl)
  | gotFinalAck rest hst => exact grow rfl (by simp only [txnsSoFar, hst, List.append_assoc]; rfl)
  | failed hf => exact absurd hf.state ht

/-- Settles O56: what the host or the peer touches is no part of the transcript, and a move follows the position. -/
theorem transcriptFollowsPosition : Obligations.TranscriptFollowsPosition := by
  unfold Obligations.TranscriptFollowsPosition
  intro s t before h hb hs hw hstep ht hidle
  rcases step_of_busy hb hstep with hi | ⟨err, acc, chan, reads, draws, script, hm⟩
  · exact absurd hi hidle
  · exact hm.transcript h.of_hostFields hs hw ht

/-! ## A session that succeeds -/

theorem exec_start_eq {s t : State} (hb : s.busy = false) (hl : s.len ≤ s.params.payloadMax)
    (h : exec .start s = .next t) : t = beginSession s :=
  Host.Outcome.next.inj (h.symm.trans (execStart_of_fits hb hl))

/-- What is kept from START in `s` to a state `u` of its session: the inputs, and the transcript of the position if no failure has been met (R51, R217). -/
structure InSession (s u : State) : Prop where
  inv : Inv u
  mem : u.mem = s.mem
  len : u.len = s.len
  nameLen : u.nameLen = s.nameLen
  totBlk : u.totBlk.toNat = totalBlocks s.len.toNat
  transcript : u.state = .failCancel ∨ u.state = .failed ∨ u.wire = s.wire ++ txnsSoFar u

theorem inSession_beginSession {s : State} (h : Inv s) (hl : s.len ≤ s.params.payloadMax) :
    InSession s (beginSession s) :=
  ⟨h.after_beginSession hl, rfl, rfl, rfl, (beginSession_totBlk_toNat h.params_wf hl).1,
    .inr (.inr (List.append_nil _).symm)⟩

/-- FAIL_CANCEL leads nowhere but to FAILED (R192). -/
theorem Move.of_failCancel {s t : State} (h : Move s t) (hs : s.state = .failCancel) :
    t.state = .failCancel ∨ t.state = .failed := by
  have hne {st : SessionState} (hst : s.state = st) : SessionState.failCancel = st := hs.symm.trans hst
  cases h with
  | quiet => exact .inl hs
  | counted hr _ => exact absurd hs (ne_failCancel_of_wait hr)
  | cancelled ok _ => exact .inr rfl
  | failed hf => exact .inl hf.state
  | sentHeader hst _ | sentData hst _ | sentEot hst | sentFinalHeader hst | gotInitialC _ hst | gotHdrAck _ hst
  | gotHdrC _ hst | gotLastAck _ hst _ | gotDataAck _ hst _ | gotEotAck _ hst | gotFinalC _ hst
  | gotFinalAck _ hst => cases hne hst

theorem InSession.of_step {s v w : State} (h : InSession s v) (hb : v.busy = true) (hstep : step v = .next w) :
    w.state = .idle ∨ InSession s w := by
  obtain ⟨hinv, hmem, hlen, hname, htot, htxns⟩ := h
  refine (step_of_busy hb hstep).imp_right fun ⟨err, acc, chan, reads, draws, script, hm⟩ => ?_
  have hh := hm.sameHostSide
  refine ⟨everyStepKeepsTheInvariant v w hinv hstep, hh.mem.trans hmem, hh.len.trans hlen, hh.nameLen.trans hname,
    hh.totBlk ▸ htot, ?_⟩
  rcases htxns with hv | hv | hv
  · exact (hm.of_failCancel hv).imp_right .inl
  · simp [State.busy, hv, SessionState.busy] at hb
  · by_cases hw : w.state = .failCancel
    · exact .inl hw
    · by_cases hv' : v.state = .failCancel
      · exact (hm.of_failCancel hv').imp_right .inl
      · exact .inr (.inr (hm.transcript hinv.of_hostFields hv' hv hw))

theorem inSession_of_activeRun {s t u : State} (hr : ActiveRun t u) (h : InSession s t) :
    u.state = .idle ∨ InSession s u := by
  induction hr with
  | here => exact .inr h
  | more v w _ hb hstep ih =>
    rcases ih with hidle | hv
    · simp [State.busy, hidle, SessionState.busy] at hb
    · exact hv.of_step hb hstep

/-! ## How many writes and how many bytes read -/

theorem sentTxn_isWrite (e : Except Nat (List Byte)) :
    (sentTxn e).isWrite = true ∧ (sentTxn e).isByteRead = false := by
  cases e <;> exact ⟨rfl, rfl⟩

/-- Each data block is one write and one byte read. -/
theorem blocksTxns_counts (s : State) (k : Nat) :
    ((blocksTxns s k).filter ChTxn.isWrite).length = k ∧
      ((blocksTxns s k).filter ChTxn.isByteRead).length = k := by
  induction k with
  | zero => exact ⟨rfl, rfl⟩
  | succ k ih =>
    obtain ⟨hw, hr⟩ := ih
    obtain ⟨hsw, hsr⟩ := sentTxn_isWrite (dataFrame s (BitVec.ofNat 8 ((k + 1) % 256)) (k + 1))
    simp only [blocksTxns_succ, blockTxns, List.filter_append, List.length_append, hw, hr, List.filter_cons, hsw, hsr]
    exact ⟨rfl, rfl⟩

theorem openingTxns_counts (s : State) :
    ((openingTxns s).filter ChTxn.isWrite).length = 1 ∧ ((openingTxns s).filter ChTxn.isByteRead).length = 3 := by
  obtain ⟨hsw, hsr⟩ := sentTxn_isWrite (headerFrame s)
  simp only [openingTxns, List.filter_cons, hsw, hsr]
  exact ⟨rfl, rfl⟩

theorem closingTxns_counts :
    (closingTxns.filter ChTxn.isWrite).length = 2 ∧ (closingTxns.filter ChTxn.isByteRead).length = 3 := ⟨rfl, rfl⟩

/-- N + 3 writes and N + 6 bytes read (R217). -/
theorem sessionTxns_counts (s : State) :
    ((sessionTxns s).filter ChTxn.isWrite).length = s.totBlk.toNat + 3 ∧
      ((sessionTxns s).filter ChTxn.isByteRead).length = s.totBlk.toNat + 6 := by
  obtain ⟨hwOpen, hrOpen⟩ := openingTxns_counts s
  obtain ⟨hwBlocks, hrBlocks⟩ := blocksTxns_counts s s.totBlk.toNat
  obtain ⟨hwClose, hrClose⟩ := closingTxns_counts
  simp only [sessionTxns, List.filter_append, List.length_append]
  omega

/-- Settles O57: the transcript of the position SUCCEEDED, which the run has reached without a failure. -/
theorem successfulSessionTranscript : Obligations.SuccessfulSessionTranscript := by
  unfold Obligations.SuccessfulSessionTranscript
  intro s t u h hb hl hstart hrun hst
  obtain rfl := exec_start_eq hb hl hstart
  rcases inSession_of_activeRun hrun (inSession_beginSession h hl) with hidle | hu
  · cases hidle.symm.trans hst
  · obtain ⟨hw, hr⟩ := sessionTxns_counts u
    have htxns : u.wire = s.wire ++ txnsSoFar u := by
      rcases hu.transcript with hf | hf | htxns
      · cases hf.symm.trans hst
      · cases hf.symm.trans hst
      · exact htxns
    have hall : txnsSoFar u = sessionTxns u := by rw [txnsSoFar, hst]
    exact ⟨hall ▸ htxns, hw, hr, hu.mem, hu.len, hu.nameLen, hu.totBlk⟩

/-! ## The cancel pair -/

/-- A frame begins with SOH, the cancel pair does not (R101). -/
theorem frame_ne_cancelPair (num : Byte) (p : List Byte) : frame num p ≠ cancelPair := by
  intro h
  have hhead : some sohByte = some canByte := congrArg List.head? h
  exact absurd hhead (by decide)

/-- Only FAIL_CANCEL writes the cancel pair (R192). -/
theorem bytesToSend_ne_cancelPair {s : State} {bs : List Byte} (hr : roleOf s.state = .send)
    (hs : s.state ≠ .failCancel) (hb : bytesToSend s = .ok bs) : bs ≠ cancelPair := by
  rcases state_of_send hr with h | h | h | h | h
  · simp only [bytesToSend, h, headerFrame] at hb
    split at hb <;> cases hb
    exact frame_ne_cancelPair _ _
  · simp only [bytesToSend, h, dataFrame] at hb
    split at hb <;> cases hb
    exact frame_ne_cancelPair _ _
  · rw [bytesToSend_sendEot h] at hb
    cases hb
    decide
  · rw [bytesToSend_sendFinalHeader h] at hb
    cases hb
    exact frame_ne_cancelPair _ _
  · exact absurd h hs

/-- Since the record `before` no cancel pair has been put on the wire. -/
def NoCancelSince (before : List ChTxn) (u : State) : Prop :=
  ∃ added, u.wire = before ++ added ∧ ∀ ok, ChTxn.wrote cancelPair ok ∉ added

theorem NoCancelSince.grow {before : List ChTxn} {v w : State} {x : ChTxn} (h : NoCancelSince before v)
    (hw : w.wire = v.wire ++ [x]) (hx : ∀ ok, x ≠ .wrote cancelPair ok) : NoCancelSince before w := by
  obtain ⟨added, hv, hno⟩ := h
  refine ⟨added ++ [x], by rw [hw, hv, List.append_assoc], fun ok hmem => ?_⟩
  rcases List.mem_append.1 hmem with hold | hnew
  · exact hno ok hold
  · exact hx ok (List.mem_singleton.1 hnew).symm

/-- A step adds no cancel pair unless it is the one that ends in FAILED. -/
theorem NoCancelSince.of_step {before : List ChTxn} {v w : State} (h : NoCancelSince before v)
    (hstep : step v = .next w) : w.state = .failed ∨ NoCancelSince before w := by
  obtain ⟨e, rest, hs, -⟩ := step_next hstep
  have same (hw : w.wire = v.wire) : NoCancelSince before w := h.imp fun _ => And.imp_left hw.trans
  have ended {ans : ChAnswer} (he : e = .engine ans) (ha : ans ≠ .silent) (hv : v.state = .failCancel) :
      w.state = .failed := by
    subst he
    rw [step_engine hs, engineTurn_failCancel (s := v.withScript rest) hv ha, Host.Outcome.next.injEq] at hstep
    rw [← hstep]
  rcases step_wire hs hstep with ⟨hw, -⟩ | ⟨b, -, hw, -⟩ | ⟨b, -, -, hw, -⟩ | ⟨hr, -, bs, hb, hw⟩ |
    ⟨x, cls, -, ⟨-, b, -, hw⟩ | ⟨-, -, hw⟩⟩
  · exact .inr (same hw)
  · exact .inr (same hw)
  · exact .inr (same hw)
  · by_cases hv : v.state = .failCancel
    · exact .inl (hw.elim (fun hok => ended hok.1 (by decide) hv) fun herr => ended herr.1 (by decide) hv)
    · have hne := bytesToSend_ne_cancelPair hr hv hb
      rcases hw with ⟨-, hw⟩ | ⟨-, hw⟩ <;> exact .inr (h.grow hw (by simp [hne]))
  · exact .inr (h.grow hw (by simp))
  · exact .inr (h.grow hw (by simp))

theorem noCancelSince_of_activeRun {before : List ChTxn} {t u : State} (hr : ActiveRun t u)
    (h : NoCancelSince before t) : u.state = .failed ∨ NoCancelSince before u := by
  induction hr with
  | here => exact .inr h
  | more v w _ hb hstep ih =>
    rcases ih with hf | hv
    · simp [State.busy, hf, SessionState.busy] at hb
    · exact hv.of_step hstep

/-- Settles O58: no step of the run adds the pair but one that ends in FAILED. -/
theorem noCancelPairWithoutFailure : Obligations.NoCancelPairWithoutFailure := by
  unfold Obligations.NoCancelPairWithoutFailure
  intro s t u _ hb hl hstart hrun hf _
  obtain rfl := exec_start_eq hb hl hstart
  have h0 : NoCancelSince s.wire (beginSession s) := ⟨[], (List.append_nil _).symm, fun _ => List.not_mem_nil⟩
  exact (noCancelSince_of_activeRun hrun h0).resolve_left hf

end Sys2Proof.Machine
end

section
/-! PROOF. The bound on a session's ticks in wait states (70_reset_and_hazards.md R282): what is left of the current wait, and the waits still to come, go down with every tick and up with no step. -/

namespace Sys2Proof.Machine

open Sys2Proof.Config

/-! ## The ticks a session has left -/

/-- The waits that the session still has to enter if it meets no failure, all of them bounded by T_ACK_MS (R280). -/
def waitsAhead (s : State) : Nat :=
  match s.state with
  | .awaitInitialReady => s.totBlk.toNat + 5
  | .sendHeader => s.totBlk.toNat + 5
  | .awaitHdrAck => s.totBlk.toNat + 4
  | .awaitHdrC => s.totBlk.toNat + 3
  | .sendData => s.totBlk.toNat - s.blkIdx.toNat + 4
  | .awaitDataAck => s.totBlk.toNat - s.blkIdx.toNat + 3
  | .sendEot => 3
  | .awaitEotAck => 2
  | .awaitFinalC => 1
  | .sendFinalHeader => 1
  | .awaitFinalAck => 0
  | .failCancel => 0
  | .idle => 0
  | .failed => 0
  | .succeeded => 0

/-- The ticks left in the current wait, if there is one. -/
def waitLeft (s : State) : Nat :=
  match roleOf s.state with
  | .rest => 0
  | .send => 0
  | .wait _ cls => cls.ticks s.params - s.elapsed.toNat

/-- The ticks that a session can still spend in wait states. -/
def ticksLeft (s : State) : Nat := waitLeft s + waitsAhead s * s.params.tAckMs

theorem waitLeft_of_wait {s : State} {e : Byte} {cls : WaitClass} (hr : roleOf s.state = .wait e cls) :
    waitLeft s = cls.ticks s.params - s.elapsed.toNat := by
  rw [waitLeft, hr]

theorem ticksLeft_of_failCancel {s : State} (h : s.state = .failCancel) : ticksLeft s = 0 := by
  simp only [ticksLeft, waitLeft, waitsAhead, h, roleOf, Nat.zero_mul]

/-- Entering an ordinary wait uses up one of the waits ahead. -/
theorem ticksLeft_enterWait {s u : State} {w : SessionState} {e : Byte} (hw : roleOf w = .wait e .ordinary)
    (hp : u.params = s.params) (h : waitsAhead (enterWait w u) + 1 ≤ waitsAhead s) :
    ticksLeft (enterWait w u) ≤ ticksLeft s := by
  have hleft : waitLeft (enterWait w u) = s.params.tAckMs := by
    rw [waitLeft_of_wait (s := enterWait w u) hw, enterWait_params, hp]
    rfl
  calc ticksLeft (enterWait w u) = (waitsAhead (enterWait w u) + 1) * s.params.tAckMs := by
        rw [ticksLeft, hleft, enterWait_params, hp]; ring
    _ ≤ waitsAhead s * s.params.tAckMs := Nat.mul_le_mul_right _ h
    _ ≤ ticksLeft s := Nat.le_add_left ..

/-- A state that is no wait has only the waits ahead. -/
theorem ticksLeft_le_of_not_wait {s t : State} (hw : ∀ e cls, roleOf t.state ≠ .wait e cls)
    (hp : t.params = s.params) (h : waitsAhead t ≤ waitsAhead s) : ticksLeft t ≤ ticksLeft s := by
  have hleft : waitLeft t = 0 := by
    unfold waitLeft
    split
    · rfl
    · rfl
    · exact absurd ‹_› (hw _ _)
  calc ticksLeft t = waitsAhead t * s.params.tAckMs := by rw [ticksLeft, hleft, hp, Nat.zero_add]
    _ ≤ waitsAhead s * s.params.tAckMs := Nat.mul_le_mul_right _ h
    _ ≤ ticksLeft s := Nat.le_add_left ..

/-! ## Moves and ticks -/

/-- A counted tick uses up one tick of the current wait. -/
theorem ticksLeft_advanceElapsed {s : State} {e : Byte} {cls : WaitClass} (h : Inv s)
    (hr : roleOf s.state = .wait e cls) : ticksLeft (advanceElapsed s) + 1 = ticksLeft s := by
  obtain ⟨hsucc, hlt⟩ := h.elapsed_succ hr
  have hleft : waitLeft (advanceElapsed s) = cls.ticks s.params - (s.elapsed + 1#32).toNat :=
    waitLeft_of_wait (s := advanceElapsed s) hr
  have hahead : waitsAhead (advanceElapsed s) * (advanceElapsed s).params.tAckMs =
      waitsAhead s * s.params.tAckMs := rfl
  rw [ticksLeft, ticksLeft, hahead, hleft, waitLeft_of_wait hr]
  omega

/-- A tick in a wait uses up one tick of the session, counted or the timeout (R212). -/
theorem ticksLeft_tickTurn {s : State} {e : Byte} {cls : WaitClass} (h : Inv s) (hr : roleOf s.state = .wait e cls) :
    ticksLeft (tickTurn s) + 1 ≤ ticksLeft s := by
  have hone := ticksLeft_advanceElapsed h hr
  rcases tickTurn_cases s with ⟨-, hno⟩ | ⟨-, -, -, ⟨-, ht⟩ | ⟨-, ht⟩⟩
  · exact absurd hr (hno e cls)
  · obtain ⟨f, hmiss⟩ := onMiss_of_wait (s := advanceElapsed s) hr
    rw [ht, hmiss, ticksLeft_of_failCancel rfl]
    omega
  · exact ht ▸ hone.le

/-- No move gives a session more ticks. -/
theorem Move.ticksLeft_le {s t : State} (hm : Move s t) (h : Inv s) : ticksLeft t ≤ ticksLeft s := by
  have hw {st : SessionState} (hst : roleOf st = .send ∨ roleOf st = .rest) :
      ∀ e cls, roleOf st ≠ .wait e cls := by rcases hst with hst | hst <;> simp [hst]
  cases hm with
  | quiet => exact le_refl _
  | counted hr _ =>
    have hone := ticksLeft_advanceElapsed h hr
    omega
  | sentHeader hs _ => exact ticksLeft_enterWait rfl rfl (by simp [waitsAhead, hs])
  | sentData hs _ => exact ticksLeft_enterWait rfl rfl (by simp [waitsAhead, hs])
  | sentEot hs => exact ticksLeft_enterWait rfl rfl (by simp [waitsAhead, hs])
  | sentFinalHeader hs => exact ticksLeft_enterWait rfl rfl (by simp [waitsAhead, hs])
  | cancelled ok hs => exact ticksLeft_le_of_not_wait (hw (.inr rfl)) rfl (by simp [waitsAhead])
  | gotInitialC rest hs => exact ticksLeft_le_of_not_wait (hw (.inl rfl)) rfl (by simp [waitsAhead, afterRead, hs])
  | gotHdrAck rest hs => exact ticksLeft_enterWait rfl rfl (by simp [waitsAhead, afterRead, hs])
  | gotHdrC rest hs =>
    obtain ⟨hblk, -⟩ := h.before_data (by simp [beforeData, hs])
    split
    · exact ticksLeft_le_of_not_wait (hw (.inl rfl)) rfl (by simp [waitsAhead, hs])
    · rename_i h0
      have hpos : s.totBlk.toNat ≠ 0 := fun hz => h0 (BitVec.eq_of_toNat_eq hz)
      refine ticksLeft_le_of_not_wait (hw (.inl rfl)) rfl ?_
      simp only [waitsAhead, hs, enterState_state, enterState_totBlk, enterState_blkIdx, afterRead, recordTxn_totBlk,
        recordTxn_blkIdx, hblk, BitVec.toNat_ofNat]
      omega
  | gotLastAck rest hs hl =>
    exact ticksLeft_le_of_not_wait (hw (.inl rfl)) rfl (by simp [waitsAhead, hs])
  | gotDataAck rest hs hl =>
    obtain ⟨-, hle, -⟩ := h.in_data (.inr hs)
    have hne : s.blkIdx.toNat ≠ s.totBlk.toNat := fun heq => hl (BitVec.eq_of_toNat_eq heq)
    refine ticksLeft_le_of_not_wait (hw (.inl rfl)) rfl ?_
    simp only [waitsAhead, hs, nextBlock_state, nextBlock_totBlk, nextBlock_blkIdx, countBlock_totBlk,
      countBlock_blkIdx, afterRead, recordTxn_totBlk, recordTxn_blkIdx, (h.counters_succ (.inr hs)).1]
    omega
  | gotEotAck rest hs => exact ticksLeft_enterWait rfl rfl (by simp [waitsAhead, afterRead, hs])
  | gotFinalC rest hs => exact ticksLeft_le_of_not_wait (hw (.inl rfl)) rfl (by simp [waitsAhead, afterRead, hs])
  | gotFinalAck rest hs => exact ticksLeft_le_of_not_wait (hw (.inr rfl)) rfl (by simp [waitsAhead])
  | failed hf => rw [ticksLeft_of_failCancel hf.state]; exact Nat.zero_le _

/-! ## A session's steps -/

/-- A tick counts in a wait state and nothing else does (R212). -/
theorem waitTick_cases (s : State) : waitTick s = 0 ∨
    ∃ e cls rest, waitTick s = 1 ∧ roleOf s.state = .wait e cls ∧ s.script = .tick :: rest := by
  unfold waitTick
  split
  · rename_i e cls hr htick
    obtain ⟨rest, hs⟩ := List.head?_eq_some_iff.1 htick
    exact .inr ⟨e, cls, rest, rfl, hr, hs⟩
  · exact .inl rfl

/-- Each step of a session pays for the tick it counts. -/
theorem ticksLeft_step {s t : State} (h : Inv s) (hb : s.busy = true) (hstep : step s = .next t) :
    ticksLeft t + waitTick s ≤ ticksLeft s := by
  rcases waitTick_cases s with h0 | ⟨e, cls, rest, h1, hr, hs⟩
  · rw [h0, Nat.add_zero]
    rcases step_of_busy hb hstep with hidle | ⟨err, acc, chan, reads, draws, script, hm⟩
    · simp only [ticksLeft, waitLeft, waitsAhead, hidle, roleOf, Nat.zero_mul]
      exact Nat.zero_le _
    · exact hm.ticksLeft_le h.of_hostFields
  · obtain rfl : tickTurn (s.withScript rest) = t := by simpa [step_tick hs] using hstep
    rw [h1]
    exact ticksLeft_tickTurn (s := s.withScript rest) h.of_hostFields hr

/-- The ticks counted and the ticks left never exceed what the session began with. -/
theorem ticksLeft_countedRun {n : Nat} {t u : State} (hr : CountedRun n t u) (h : Inv t) :
    Inv u ∧ n + ticksLeft u ≤ ticksLeft t := by
  induction hr with
  | here => exact ⟨h, (Nat.zero_add _).le⟩
  | more n _ v w _ hb hstep ih =>
    obtain ⟨hv, hle⟩ := ih h
    have hpay := ticksLeft_step hv hb hstep
    exact ⟨everyStepKeepsTheInvariant v w hv hstep, by omega⟩

/-- Settles O59: a session begins with the bound's ticks. -/
theorem waitTicksAreBounded : Obligations.WaitTicksAreBounded := by
  unfold Obligations.WaitTicksAreBounded
  intro s t u n h hb hl hstart hrun
  obtain rfl := exec_start_eq hb hl hstart
  obtain ⟨-, hle⟩ := ticksLeft_countedRun hrun (h.after_beginSession hl)
  have hbound : ticksLeft (beginSession s) =
      s.params.tInitMs + ((beginSession s).totBlk.toNat + 5) * s.params.tAckMs := rfl
  omega

end Sys2Proof.Machine
end
